-- ==== Sys2Proof/Word.lean ====
section
/-! DEFINITION. The word types of the WZeta SDog model: bytes, data addresses, counters, instruction words
(spec/00_scope.md R7, spec/10_state.md R20, R24, spec/30_encoding.md R80). -/

namespace Sys2Proof

/-- A register or memory byte (R20, R56). -/
abbrev Byte := BitVec 8

/-- A 16-bit data address, `A:B` and the like (R21, R44). -/
abbrev Addr := BitVec 16

/-- A program counter. The spec's width `W` is a parameter, 9 to 17 (R24); a counter is held in 17 bits, and every
write keeps its low `W` bits (`Config.wrap`). -/
abbrev Counter := BitVec 17

/-- One 16-bit instruction word (R80, R81). -/
abbrev InstrWord := BitVec 16

end Sys2Proof
end

