-- ==== Sys2Proof/Config.lean ====
section
/-! DEFINITION. What one build of the core fixes (spec/00_scope.md R5), as plain data, and the free values of the spec:
opaque constants without a body, about which nothing can be proved. -/

namespace Sys2Proof

/-- How data addresses lie in the installed memory (R5 `MEM_MODEL`, R55). -/
inductive MemModel where
  /-- Program and data mixed in one space. -/
  | tiny
  /-- The second half of the memory is data. -/
  | half
  /-- The last quarter is data. -/
  | quarter
  /-- The last eighth is data. -/
  | eighth
  /-- The last sixteenth is data. -/
  | sixteenth
  /-- Any other split position, data starting at physical byte `base`: the source's list of splits is open-ended
  (log entry 8, DESIGN CHOICE). -/
  | split (base : Nat)
  deriving DecidableEq, Repr

/-- The role of bit 15 (R5 `OPMSB_MODE`, R305, R306). -/
inductive OpmsbMode where
  | none
  | debug
  | parity
  | fast
  deriving DecidableEq, Repr

/-- The parameters of R5. -/
structure Config where
  /-- `W`, the width of PC, MC and IC. -/
  width : Nat
  /-- `JRA_WIDTH`, the width of the internal relative-branch address register: not program-visible, and JRA has no
  architectural state (R5, R23), so no step reads it. -/
  jraWidth : Nat
  /-- `MEM_BYTES`, the installed memory in bytes. -/
  memBytes : Nat
  /-- `MEM_MODEL`; `DATA_BASE` follows from it. -/
  memModel : MemModel
  /-- `HAS_USER_MODE`: UF and AE exist. -/
  hasUserMode : Bool
  /-- `USER_LIMIT`. -/
  userLimit : Nat
  /-- `HAS_PMEMACC`. -/
  hasPmemacc : Bool
  /-- `MACRO_BASE`, the program address of millicode entry 0. -/
  macroBase : Counter
  /-- `MACRO_EXT`: the macro bit is bit 14 AND bit 13 (R92). -/
  macroExt : Bool
  /-- `JSIG121_ENABLED`. -/
  jsig121Enabled : Bool
  /-- `OPMSB_MODE`. -/
  opmsbMode : OpmsbMode
  /-- `LOOP_B_SUPPORTED`. -/
  loopB : Bool
  /-- `HAS_INFO_REGS`: GETVER, GETID and CPUINFO exist. -/
  hasInfoRegs : Bool
  /-- `VERSION`. -/
  version : Byte
  /-- `ID`. -/
  ident : Byte
  /-- `CPUINFO`. -/
  cpuInfo : Byte
  /-- `RESET_PC`. -/
  resetPc : Counter
  /-- `PC_XFER_SHIFT`: true for 1 (GETPC and its kin move the counter divided by 2), false for 0. -/
  pcXferShift : Bool
  deriving DecidableEq, Repr

/-- The column "default in this spec" of R5. `VERSION`, `ID` and `CPUINFO` have no default; they are not read while
`hasInfoRegs` is false (log entry 1). -/
def Config.default : Config where
  width := 12
  jraWidth := 11
  memBytes := 2048
  memModel := .tiny
  hasUserMode := true
  userLimit := 2048
  hasPmemacc := true
  macroBase := 512#17
  macroExt := false
  jsig121Enabled := false
  opmsbMode := .none
  loopB := false
  hasInfoRegs := false
  version := 0#8
  ident := 0#8
  cpuInfo := 0#8
  resetPc := 0#17
  pcXferShift := true

/-- FREE VALUE (log entry 4): `unspecified_8`, the byte a restricted read yields (R8, R58), one for each draw. -/
opaque Config.freeByte : Nat → Byte

/-- FREE VALUE (log entry 3): the byte at a physical address that was not loaded and has not been written (R46). -/
opaque Config.powerOnByte : Nat → Byte

/-- FREE VALUE (log entry 5): the level of INT0 at a boundary the environment's script does not cover (R43, R316). -/
opaque Config.freeInt0 : Nat → Bool

/-- FREE VALUE (log entry 5): the level of INT1 at a boundary the environment's script does not cover (R43, R316). -/
opaque Config.freeInt1 : Nat → Bool

/-- FREE VALUE (log entry 5): the level of JSIG121 at a boundary the environment's script does not cover (R189). -/
opaque Config.freeJsig121 : Nat → Bool

/-- FREE VALUE (log entry 6): the byte a port presents to an input the environment's script does not cover (R64). -/
opaque Config.freePortByte : Nat → Byte

end Sys2Proof
end

