-- ==== Sys2Proof/Machine/State.lean ====
section
/-! DEFINITION. The state of the machine as plain data (spec/10_state.md R20 to R46), the reasons a step can stop, and
the state after reset. -/

namespace Sys2Proof.Machine

/-- Physical memory (R56): the bytes that were loaded or written, addresses strictly rising. An unlisted address has no
listed value; what the machine reads there is `Memory.read`. -/
abbrev Memory := List Host.Cell

/-- The levels of the three input lines at one instruction boundary (R43, R316, R189). -/
structure Lines where
  int0 : Bool
  int1 : Bool
  jsig121 : Bool
  deriving DecidableEq, Repr

/-- One access to the I/O port space (R64). -/
inductive PortEvent where
  /-- Port `port` presented `value` to an input. -/
  | input (port value : Byte)
  /-- The core presented `value` on port `port`. -/
  | output (port value : Byte)
  deriving DecidableEq, Repr

/-- The state. The fields from `cfg` to `mem` are the spec's (its parameters and its state); `lines` to `draws` are the
model's own (log entries 4 to 6). -/
structure State where
  /-- The parameters of R5; no step changes them (log entry 1). -/
  cfg : Config
  /-- Register A (R20). -/
  a : Byte
  /-- Register B (R20). -/
  b : Byte
  /-- Register C, loop control and port ID (R20). -/
  c : Byte
  /-- Program counter (R24). -/
  pc : Counter
  /-- Millicode counter (R24). -/
  mc : Counter
  /-- Interrupt counter (R24). -/
  ic : Counter
  /-- Zero flag, flag register bit 0 (R31, R32). -/
  zf : Bool
  /-- Milli flag, flag register bit 1 (R31, R34). -/
  mf : Bool
  /-- User-mode flag, flag register bit 2 (R31, R35); read through `State.userMode`. -/
  uf : Bool
  /-- OF, flag register bits 4..3 (R31, R33). -/
  ofs : BitVec 2
  /-- Carry flag, flag register bit 7 (R31, R37). -/
  cf : Bool
  /-- Access error, status register bit 0 (R38, R39); read through `State.accessError`. -/
  ae : Bool
  /-- Timer interrupt, status register bit 1 (R38): always 0, nothing sets it (R333). -/
  tm : Bool
  /-- Interrupt enable, status register bit 7 (R38, R315). -/
  ef : Bool
  /-- IF, the hidden in-interrupt bit (R40). -/
  inInt : Bool
  /-- PA, the PMEMACC-pending bit (R41). -/
  pa : Bool
  /-- Physical memory (R56). -/
  mem : Memory
  /-- MODEL: the line levels sampled at the last boundary (log entry 5). -/
  lines : Lines
  /-- MODEL: the line levels the environment presents at the boundaries to come, oldest first (log entry 5). -/
  lineScript : List Lines
  /-- MODEL: the bytes the environment presents to the port inputs to come, oldest first (log entry 6). -/
  portScript : List Byte
  /-- MODEL: the port events so far, in program order (R64, log entry 6). -/
  events : List PortEvent
  /-- MODEL: how many free values have been drawn (log entry 4). -/
  draws : Nat
  deriving DecidableEq, Repr

/-- Faults: none. The hardware has no fault or trap (R310), and the spec uses no fault for any case it leaves open
(spec/93_implementation_defined.md); whatever the spec gives no behaviour is a `Refusal`. -/
inductive Fault where
  deriving DecidableEq, Repr

/-- Refusals: what the spec gives no meaning and tells the model to refuse (R90, spec/93_implementation_defined.md).
Each is safe: the run stops and nothing is claimed of the hardware. -/
inductive Refusal where
  /-- An instruction without a meaning in this model; no arm of `exec` answers it. Safe. -/
  | notModelled (mnemonic : String)
  /-- A data access at physical address `p ≥ MEM_BYTES` (R57, R58, R59), raised by every instruction with a memory
  operand and by hard macro entry. Safe. -/
  | outsideMemory (p : Nat)
  /-- An instruction fetch at program address `p ≥ MEM_BYTES` (R54), raised by the fetch. Safe. -/
  | fetchOutsideMemory (p : Nat)
  /-- A reserved encoding (R89), raised by the reserved rows of OP 01, 10, 11 and 1F. Safe. -/
  | reservedEncoding (op : BitVec 6) (xx : Byte)
  /-- An unused OP code, 0F or 1C (R89). Safe. -/
  | unusedOpcode (op : BitVec 6)
  /-- `CLEAR k` with k other than 1 (R116). Safe. -/
  | clearCauseUndefined (k : BitVec 4)
  /-- (LOAD) or (SAVE), optional and undescribed (R118). Safe. -/
  | optionUndescribed (xx : Byte)
  /-- ROOPSHLC or ROOPSHRC, undecided (R147). Safe. -/
  | undecidedInstruction (op : BitVec 6)
  /-- Offset byte 7Fh in OP 12 to 1B, not usable (R190). Safe. -/
  | unusableOffset (op : BitVec 6)
  /-- GETVER, GETID or CPUINFO on a core without them (R113 to R115). Safe. -/
  | infoRegsAbsent
  /-- PMEMACC on a core without it (R120). Safe. -/
  | pmemaccAbsent
  /-- LOOPDEC B or LOOPINC B on a core without them (R283, R288). Safe. -/
  | loopBAbsent
  /-- `INT k` while IF = 1 (R121, R325). Safe. -/
  | intInInterrupt
  /-- A word with macro = 1 while IF = 1 (R303, R325). Safe. -/
  | hardMacroInInterrupt
  /-- RETI while IF = 0 (R212, R325). Safe. -/
  | retiOutsideInterrupt
  /-- SETFLAG with a byte whose bit 1 is not MF (R143). Safe. -/
  | setflagChangesMf
  /-- A store into a byte of the immediately following instruction (R68), raised by every store. Safe. -/
  | storeIntoNext (p : Nat)
  /-- An odd counter value: at the fetch, or given to SETPC or SETMC (R52). Safe. -/
  | oddCounter (v : Counter)
  /-- A millicode end word that carries a control transfer, INT or RETI (R302). Safe. -/
  | endTransfersControl
  /-- With `MACRO_EXT`, a word with bit 14 = 1 and bit 13 = 0: no extended instruction is defined (R92). Safe. -/
  | extendedOpcode
  /-- opmsb = 1 in mode NONE (R306). Safe. -/
  | opmsbWithoutRole
  /-- opmsb = 1 in mode DEBUG, undescribed (R306). Safe. -/
  | opmsbDebugUndescribed
  /-- Any word in mode PARITY, whose rule the spec does not give (R306), raised by step and by opmsb words. Safe. -/
  | parityRuleUnsupplied
  /-- FAST opmsb on hard macro entry (R306). Safe. -/
  | opmsbOnHardMacroEntry
  /-- FAST opmsb on an instruction that writes B (R306). Safe. -/
  | opmsbOnWriterOfB
  /-- FAST opmsb on an instruction that steps B, two readings undecided (R306). Safe. -/
  | opmsbOnStepperOfB
  /-- A macro or opmsb word where an ordinary instruction is run; no word leads here. Safe. -/
  | nestedWord
  deriving DecidableEq, Repr

/-- The result of an operation inside an instruction: a value and the state so far, or a refusal. -/
inductive Res (α : Type) where
  | ok (v : α) (s : State)
  | refused (r : Refusal)
  deriving DecidableEq, Repr

/-- The machine right after reset with the parameters `c` (R46, R350). A, B, C, ZF, CF, MC and IC are unspecified there;
their zeros are DESIGN CHOICE (log entry 2), as are the model's own fields (log entries 4 to 6). -/
def State.resetOf (c : Config) : State where
  cfg := c
  a := 0#8
  b := 0#8
  c := 0#8
  pc := c.resetPc
  mc := 0#17
  ic := 0#17
  zf := false
  mf := false
  uf := false
  ofs := 0#2
  cf := false
  ae := false
  tm := false
  ef := false
  inInt := false
  pa := false
  mem := []
  lines := ⟨false, false, false⟩
  lineScript := []
  portScript := []
  events := []
  draws := 0

/-- The machine right after reset, with the default parameters of R5 (R46). -/
def State.reset : State := State.resetOf Config.default

end Sys2Proof.Machine
end

