-- ==== Sys2Proof/Machine/Ops.lean ====
section
/-! DEFINITION. The named operations over counters, memory, ports and input lines; interrupt entry and return
(spec/10_state.md, 20_memory.md, 60_exceptions.md). Every meaning is written over these. -/

namespace Sys2Proof

/-- The low `W` bits of a counter value (R29). -/
def Config.wrap (c : Config) (v : Counter) : Counter := BitVec.ofNat 17 (v.toNat % 2 ^ c.width)

/-- `DATA_BASE`, the physical byte at which data address 0 lies (R5, R55). -/
def Config.dataBase (c : Config) : Nat :=
  match c.memModel with
  | .tiny => 0
  | .half => c.memBytes / 2
  | .quarter => c.memBytes - c.memBytes / 4
  | .eighth => c.memBytes - c.memBytes / 8
  | .sixteenth => c.memBytes - c.memBytes / 16
  | .split base => base

end Sys2Proof

namespace Sys2Proof.Machine

/-! ### Register pairs and the end of an instruction -/

/-- The register pair `H:L`, H the high byte (R7, R21). -/
def pair (h l : Byte) : Addr := h ++ l

/-- The high byte of a pair: `AB = v` writes it to A (R21). -/
def highByte (v : Addr) : Byte := v.extractLsb' 8 8

/-- The low byte of a pair: `AB = v` writes it to B (R21). -/
def lowByte (v : Addr) : Byte := v.extractLsb' 0 8

/-- `AB <- v` (R21). -/
def State.setAB (s : State) (v : Addr) : State := { s with a := highByte v, b := lowByte v }

/-- The end of every executed instruction but PMEMACC: `PA <- 0` (R41). -/
def finish (s : State) : Host.Outcome State Fault Refusal := .next { s with pa := false }

/-- Go on with the value and state of an operation, or stop as it did. -/
def Res.andThen {α : Type} (r : Res α) (k : α → State → Host.Outcome State Fault Refusal) :
    Host.Outcome State Fault Refusal :=
  match r with
  | .ok v s => k v s
  | .refused x => .refused x

/-- Change the next state of an outcome; a stop stays as it is. -/
def mapNext (f : State → State) (o : Host.Outcome State Fault Refusal) : Host.Outcome State Fault Refusal :=
  match o with
  | .next s => .next (f s)
  | .fault x => .fault x
  | .refused x => .refused x

/-! ### User mode and access error -/

/-- UF as it reads: 0 on a core without user mode (R35). -/
def State.userMode (s : State) : Bool := s.cfg.hasUserMode && s.uf

/-- AE as it reads: 0 on a core without user mode (R5 `HAS_USER_MODE`, decision D35). -/
def State.accessError (s : State) : Bool := s.cfg.hasUserMode && s.ae

/-- `raise AE`: the sticky status bit, no trap (R312). -/
def State.raiseAE (s : State) : State := { s with ae := true }

/-! ### Counters -/

/-- The active counter: IC if IF = 1, else MC if MF = 1, else PC (R27). -/
def State.cnt (s : State) : Counter := if s.inInt then s.ic else if s.mf then s.mc else s.pc

/-- Write PC, a register of `W` bits (R24, R29). -/
def State.setPc (s : State) (t : Counter) : State := { s with pc := s.cfg.wrap t }

/-- Write MC, a register of `W` bits (R24, R29). -/
def State.setMc (s : State) (t : Counter) : State := { s with mc := s.cfg.wrap t }

/-- Write IC, a register of `W` bits (R24, R29). -/
def State.setIc (s : State) (t : Counter) : State := { s with ic := s.cfg.wrap t }

/-- `cnt <- t`: write the active counter (R8, R27, R180). -/
def State.setCnt (s : State) (t : Counter) : State :=
  if s.inInt then s.setIc t else if s.mf then s.setMc t else s.setPc t

/-- `this`, the address of the executing instruction: two below `next`, which the active counter holds after the fetch
(R8, R26). -/
def State.thisAddr (s : State) : Counter := s.cfg.wrap (s.cnt - 2#17)

/-- The byte address of a word address (R21, R181): `v * 2`, before it is wrapped to `W` bits. -/
def wordTarget (v : Addr) : Counter := v.setWidth 17 <<< 1

/-- The target of a relative branch, before it is wrapped: `next + 2 * sext(off)` (R190). -/
def State.relTarget (s : State) (off : Byte) : Counter := s.cnt + (off.signExtend 17 <<< 1)

/-- The link value, `next / 2` (R188). -/
def State.link (s : State) : Addr := (s.cnt >>> 1).setWidth 16

/-! ### Memory -/

/-- The listed byte at a physical address, if there is one. -/
def Memory.get? : Memory → Nat → Option Byte
  | [], _ => none
  | (a, v) :: m, p => if p = a then some v else if p < a then none else Memory.get? m p

/-- `MemWrite`: replace one byte, keeping the addresses strictly rising (R56). -/
def Memory.set : Memory → Nat → Byte → Memory
  | [], p, v => [(p, v)]
  | (a, w) :: m, p, v =>
    if p = a then (p, v) :: m else if p < a then (p, v) :: (a, w) :: m else (a, w) :: Memory.set m p v

/-- `MemRead`: the listed byte, or the free power-on byte of an address that was neither loaded nor written (R46, R56,
log entry 3). -/
def Memory.read (m : Memory) (p : Nat) : Byte := (m.get? p).getD (Config.powerOnByte p)

/-- The canonical form: addresses strictly rising. An unlisted address has no listed value, so no entry can equal it. -/
abbrev Memory.wf (m : Memory) : Prop := (m.map Prod.fst).Pairwise (· < ·)

/-! ### Instruction fetch -/

/-- `PFetch` of both bytes at the active counter, then `cnt <- next` (R26, R54). An odd counter is refused (R52). -/
def State.fetch (s : State) : Res (Byte × Byte) :=
  let this := s.cnt
  let second := s.cfg.wrap (this + 1#17)
  if this.getLsbD 0 then .refused (.oddCounter this)
  else if s.cfg.memBytes ≤ this.toNat then .refused (.fetchOutsideMemory this.toNat)
  else if s.cfg.memBytes ≤ second.toNat then .refused (.fetchOutsideMemory second.toNat)
  else .ok (s.mem.read this.toNat, s.mem.read second.toNat) (s.setCnt (this + 2#17))

/-! ### Ports -/

/-- `PortIn(id)`: the byte the environment presents, recorded as an event; a fresh draw where the script is silent
(R64, decision D24, log entry 6). -/
def State.portIn (s : State) (port : Byte) : Byte × State :=
  match s.portScript with
  | v :: rest => (v, { s with portScript := rest, events := s.events ++ [.input port v] })
  | [] =>
    let v := Config.freePortByte s.draws
    (v, { s with draws := s.draws + 1, events := s.events ++ [.input port v] })

/-- `PortOut(id, v)`: an output event (R64). -/
def State.portOut (s : State) (port v : Byte) : State := { s with events := s.events ++ [.output port v] }

/-! ### Interrupts -/

/-- Sample the input lines at an instruction boundary: the script's next levels, or free ones (R316, log entry 5). -/
def State.sampleLines (s : State) : State :=
  match s.lineScript with
  | l :: rest => { s with lines := l, lineScript := rest }
  | [] =>
    { s with
      lines := ⟨Config.freeInt0 s.draws, Config.freeInt1 s.draws, Config.freeJsig121 s.draws⟩
      draws := s.draws + 1 }

/-- The interrupt number taken at this boundary, if any: none while IF = 1 or EF = 0; INT0 before INT1; AE requests
interrupt 1, which is INT1 with number 15 (R313, R316, R317, R324). -/
def State.pendingInterrupt (s : State) : Option (BitVec 4) :=
  if !s.inInt && s.ef && (s.lines.int0 || s.lines.int1 || s.accessError) then
    some (if s.lines.int0 then 0#4 else 15#4)
  else none

/-- The program address of interrupt `k`: `32 + 2k` (R320). -/
def vector (k : BitVec 4) : Counter := 32#17 + (k.setWidth 17 <<< 1)

/-- TAKING AN INTERRUPT, for the external interrupts, AE and `INT k`: IF <- 1, IC <- 32 + 2k, nothing else; the return
address is the counter that is left alone (R318, R319). -/
def State.enterInterrupt (s : State) (k : BitVec 4) : State := { s.setIc (vector k) with inInt := true }

/-- THE RETURN, after the flags have been loaded: IF <- 0; IC is left as it is and EF is not touched (R212, R322). -/
def State.leaveInterrupt (s : State) : State := { s with inInt := false }

end Sys2Proof.Machine
end

