-- ==== Sys2Proof/Machine/Flags.lean ====
section
/-! DEFINITION. The flag and status registers and the flag computations (spec/10_state.md R31 to R39,
spec/45_arith.md R220, spec/42_shift_logic_mem.md). -/

namespace Sys2Proof.Machine

/-- The flag register as GETFLAG stores it: CF, 0, 0, OF[1:0], UF, MF, ZF (R31, R150). -/
def State.flagByte (s : State) : Byte :=
  BitVec.ofBool s.cf ++ 0#2 ++ s.ofs ++ BitVec.ofBool s.userMode ++ BitVec.ofBool s.mf ++ BitVec.ofBool s.zf

/-- The status register as GETSTAT reads it: EF, five zeros, TM, AE (R38, R112). -/
def State.statusByte (s : State) : Byte :=
  BitVec.ofBool s.ef ++ 0#5 ++ BitVec.ofBool s.tm ++ BitVec.ofBool s.accessError

/-- Write UF; without user mode the write has no effect (R35). -/
def State.setUF (s : State) (v : Bool) : State := { s with uf := if s.cfg.hasUserMode then v else s.uf }

/-- Load ZF, UF, OF and CF from a byte of the flag layout; bits 5 and 6 are ignored (R143). -/
def State.loadFlags (s : State) (v : Byte) : State :=
  { s.setUF (v.getLsbD 2) with zf := v.getLsbD 0, ofs := v.extractLsb' 3 2, cf := v.getLsbD 7 }

/-- Load the whole flag register, MF with it: RETI only (R212). -/
def State.loadAllFlags (s : State) (v : Byte) : State := { s.loadFlags v with mf := v.getLsbD 1 }

/-- `CF` as the number 0 or 1 (R220). -/
def State.carry (s : State) : Nat := s.cf.toNat

/-- `add8`: the sum modulo 256 and the carry out (R220). -/
def add8 (x y : Byte) (c : Nat) : Byte × Bool :=
  (BitVec.ofNat 8 (x.toNat + y.toNat + c), decide (256 ≤ x.toNat + y.toNat + c))

/-- `sub8`: the difference modulo 256 and the borrow (R220). -/
def sub8 (x y : Byte) (c : Nat) : Byte × Bool :=
  (x - y - BitVec.ofNat 8 c, decide (x.toNat < y.toNat + c))

/-- `ZF <- (r = 0)` (R32). -/
def State.setZ (s : State) (r : Byte) : State := { s with zf := decide (r = 0#8) }

/-- The `○` rows: CF from the operation, ZF from the result (R36, R220). -/
def State.setCZ (s : State) (r : Byte × Bool) : State := { s with cf := r.2, zf := decide (r.1 = 0#8) }

/-- SHL: a zero enters at bit 0, bit 7 goes to CF (R160). -/
def shl8 (v : Byte) : Byte × Bool := (v.extractLsb' 0 7 ++ 0#1, v.getLsbD 7)

/-- SHR: a zero enters at bit 7, bit 0 goes to CF (R161). -/
def shr8 (v : Byte) : Byte × Bool := (0#1 ++ v.extractLsb' 1 7, v.getLsbD 0)

/-- SHLC: CF enters at bit 0, bit 7 goes to CF (R165). -/
def shlc8 (v : Byte) (c : Bool) : Byte × Bool := (v.extractLsb' 0 7 ++ BitVec.ofBool c, v.getLsbD 7)

/-- SHRC: CF enters at bit 7, bit 0 goes to CF (R166). -/
def shrc8 (v : Byte) (c : Bool) : Byte × Bool := (BitVec.ofBool c ++ v.extractLsb' 1 7, v.getLsbD 0)

end Sys2Proof.Machine
end

