-- ==== Sys2Proof/Machine/Operands.lean ====
section
/-! DEFINITION. The operand forms and the data accesses through them (spec/30_encoding.md R84, spec/20_memory.md R55 to
R61, R68), and the shapes of instruction that share them. -/

namespace Sys2Proof.Machine

/-- The address forms: D, P and X of R84, and the destination-only forms AC and ZC of spec/46_load_copy.md. -/
inductive Operand where
  /-- Form D, `[m]`. -/
  | direct (m : BitVec 7)
  /-- Form P, `[A:B]`. -/
  | pointer
  /-- Form X, `[m:B]`. -/
  | indexed (m : BitVec 7)
  /-- Form AC, `[A:C]`. -/
  | pageC
  /-- Form ZC, `[C]`. -/
  | zeroC
  deriving DecidableEq, Repr

/-- The OF that addresses use: 0 while IF = 1 (R33). -/
def State.effOF (s : State) : BitVec 2 := if s.inInt then 0#2 else s.ofs

/-- The data address of an operand (R84, R263, R267). -/
def State.ea (s : State) : Operand → Addr
  | .direct m => (s.effOF ++ m).setWidth 16
  | .pointer => pair s.a s.b
  | .indexed m => (m ++ s.b).setWidth 16
  | .pageC => pair s.a s.c
  | .zeroC => s.c.setWidth 16

/-- The forms the user-mode restriction looks at: P, X and AC (R58). -/
def Operand.pointerForm : Operand → Bool
  | .direct _ => false
  | .pointer => true
  | .indexed _ => true
  | .pageC => true
  | .zeroC => false

/-- The access is restricted: user mode, a pointer form, an address below `USER_LIMIT` (R58, R60). -/
def State.restricted (s : State) (o : Operand) : Bool :=
  s.userMode && o.pointerForm && decide ((s.ea o).toNat < s.cfg.userLimit)

/-- The physical address of a data address: the TINY mapping while PA = 1 (R55, R61). -/
def State.phys (s : State) (ea : Addr) : Nat := if s.pa then ea.toNat else s.cfg.dataBase + ea.toNat

/-- `DRead` (R58). A restricted read raises AE and yields a free value. -/
def State.dread (s : State) (o : Operand) : Res Byte :=
  if s.restricted o then .ok (Config.freeByte s.draws) { s.raiseAE with draws := s.draws + 1 }
  else if s.cfg.memBytes ≤ s.phys (s.ea o) then .refused (.outsideMemory (s.phys (s.ea o)))
  else .ok (s.mem.read (s.phys (s.ea o))) s

/-- Physical address `p` is a byte of the immediately following instruction, `next` or `next + 1` (R68, log entry 10). -/
def State.hitsNext (s : State) (p : Nat) : Bool :=
  decide (p = s.cnt.toNat) || decide (p = (s.cfg.wrap (s.cnt + 1#17)).toNat)

/-- `DWrite` (R59), with the refusal of a store into the following instruction (R68). A restricted write raises AE and
is suppressed; under PMEMACC in user mode it is suppressed. -/
def State.dwrite (s : State) (o : Operand) (v : Byte) : Res Unit :=
  if s.restricted o then .ok () s.raiseAE
  else if s.pa && s.userMode then .ok () s
  else if s.cfg.memBytes ≤ s.phys (s.ea o) then .refused (.outsideMemory (s.phys (s.ea o)))
  else if s.hitsNext (s.phys (s.ea o)) then .refused (.storeIntoNext (s.phys (s.ea o)))
  else .ok () { s with mem := s.mem.set (s.phys (s.ea o)) v }

/-! ### Shapes of instruction -/

/-- Read an operand, then end with `k` of the byte. -/
def load (s : State) (o : Operand) (k : Byte → State → State) : Host.Outcome State Fault Refusal :=
  (s.dread o).andThen fun v t => finish (k v t)

/-- Store a byte through an operand and end (R145 to R150). -/
def store (s : State) (o : Operand) (v : Byte) : Host.Outcome State Fault Refusal :=
  (s.dwrite o v).andThen fun _ t => finish t

/-- Read a byte, write the first part of `f` of it back, end with `k` of the byte read and of `f`'s answer (R62). -/
def modify (s : State) (o : Operand) (f : Byte → Byte × Bool) (k : Byte → Byte × Bool → State → State) :
    Host.Outcome State Fault Refusal :=
  (s.dread o).andThen fun v t => (t.dwrite o (f v).1).andThen fun _ u => finish (k v (f v) u)

/-- Copy the byte at `src` to `dst`, then end with `k`; both addresses are of the state before (spec/46_load_copy.md). -/
def copy (s : State) (src dst : Operand) (k : State → State) : Host.Outcome State Fault Refusal :=
  (s.dread src).andThen fun v t => (t.dwrite dst v).andThen fun _ u => finish (k u)

/-- The second operand of the A-destination opcodes when xx = 127 is register C; the register operand of the
memory-destination opcodes is C for form `[A:B]` and A for the others (R162, R225). -/
def State.regOperand (s : State) : Operand → Byte
  | .pointer => s.c
  | .direct _ => s.a
  | .indexed _ => s.a
  | .pageC => s.a
  | .zeroC => s.a

end Sys2Proof.Machine
end

