-- ==== Sys2Proof/Machine/Arith.lean ====
section
/-! DEFINITION. Increment, add, decrement, subtract, OP 20 to 27 and 30 to 37 (spec/45_arith.md R220 to R236). -/

namespace Sys2Proof.Machine

/-- Arithmetic with memory destination: CF and ZF of the operation (R220). -/
def arithMem (s : State) (o : Operand) (f : Byte → Byte × Bool) : Host.Outcome State Fault Refusal :=
  modify s o f fun _ r t => t.setCZ r

/-- INCX and its kin: the operation on memory, B <- old A, A <- the byte before the operation (R223, R231). -/
def arithMemX (s : State) (o : Operand) (f : Byte → Byte × Bool) : Host.Outcome State Fault Refusal :=
  modify s o f fun v r t => { t.setCZ r with a := v, b := s.a }

/-- Arithmetic with destination A and a memory operand (R227, R235). -/
def arithA (s : State) (o : Operand) (f : Byte → Byte × Bool) : Host.Outcome State Fault Refusal :=
  load s o fun v t => { t.setCZ (f v) with a := (f v).1 }

/-- Arithmetic with destination A and register C, no memory access (R227, R235). -/
def arithAC (s : State) (f : Byte → Byte × Bool) : Host.Outcome State Fault Refusal :=
  finish { s.setCZ (f s.c) with a := (f s.c).1 }

/-- INC [m] (R221). -/
def execIncD (m : BitVec 7) (s : State) : Host.Outcome State Fault Refusal :=
  arithMem s (.direct m) (add8 · 1#8 0)

/-- INC [A:B] (R221). -/
def execIncP (s : State) : Host.Outcome State Fault Refusal :=
  arithMem s .pointer (add8 · 1#8 0)

/-- INC [m:B] (R221). -/
def execIncX (m : BitVec 7) (s : State) : Host.Outcome State Fault Refusal :=
  arithMem s (.indexed m) (add8 · 1#8 0)

/-- INCC [m] (R222). -/
def execInccD (m : BitVec 7) (s : State) : Host.Outcome State Fault Refusal :=
  arithMem s (.direct m) (add8 · 0#8 s.carry)

/-- INCC [A:B] (R222). -/
def execInccP (s : State) : Host.Outcome State Fault Refusal :=
  arithMem s .pointer (add8 · 0#8 s.carry)

/-- INCC [m:B] (R222). -/
def execInccX (m : BitVec 7) (s : State) : Host.Outcome State Fault Refusal :=
  arithMem s (.indexed m) (add8 · 0#8 s.carry)

/-- INCX [m] (R223). -/
def execIncxD (m : BitVec 7) (s : State) : Host.Outcome State Fault Refusal :=
  arithMemX s (.direct m) (add8 · 1#8 0)

/-- INCX [A:B] (R223). -/
def execIncxP (s : State) : Host.Outcome State Fault Refusal :=
  arithMemX s .pointer (add8 · 1#8 0)

/-- INCX [m:B] (R223). -/
def execIncxX (m : BitVec 7) (s : State) : Host.Outcome State Fault Refusal :=
  arithMemX s (.indexed m) (add8 · 1#8 0)

/-- INCXC [m] (R224). -/
def execIncxcD (m : BitVec 7) (s : State) : Host.Outcome State Fault Refusal :=
  arithMemX s (.direct m) (add8 · 0#8 s.carry)

/-- INCXC [A:B] (R224). -/
def execIncxcP (s : State) : Host.Outcome State Fault Refusal :=
  arithMemX s .pointer (add8 · 0#8 s.carry)

/-- INCXC [m:B] (R224). -/
def execIncxcX (m : BitVec 7) (s : State) : Host.Outcome State Fault Refusal :=
  arithMemX s (.indexed m) (add8 · 0#8 s.carry)

/-- ADD [m] (R225), the register operand is C for `[A:B]` and A otherwise. -/
def execAddMemD (m : BitVec 7) (s : State) : Host.Outcome State Fault Refusal :=
  arithMem s (.direct m) (add8 · (s.regOperand (.direct m)) 0)

/-- ADD [A:B] (R225), the register operand is C for `[A:B]` and A otherwise. -/
def execAddMemP (s : State) : Host.Outcome State Fault Refusal :=
  arithMem s .pointer (add8 · (s.regOperand .pointer) 0)

/-- ADD [m:B] (R225), the register operand is C for `[A:B]` and A otherwise. -/
def execAddMemX (m : BitVec 7) (s : State) : Host.Outcome State Fault Refusal :=
  arithMem s (.indexed m) (add8 · (s.regOperand (.indexed m)) 0)

/-- ADDC [m] (R226), the register operand is C for `[A:B]` and A otherwise. -/
def execAddcMemD (m : BitVec 7) (s : State) : Host.Outcome State Fault Refusal :=
  arithMem s (.direct m) (add8 · (s.regOperand (.direct m)) s.carry)

/-- ADDC [A:B] (R226), the register operand is C for `[A:B]` and A otherwise. -/
def execAddcMemP (s : State) : Host.Outcome State Fault Refusal :=
  arithMem s .pointer (add8 · (s.regOperand .pointer) s.carry)

/-- ADDC [m:B] (R226), the register operand is C for `[A:B]` and A otherwise. -/
def execAddcMemX (m : BitVec 7) (s : State) : Host.Outcome State Fault Refusal :=
  arithMem s (.indexed m) (add8 · (s.regOperand (.indexed m)) s.carry)

/-- ADD A,[m] (R227). -/
def execAddAD (m : BitVec 7) (s : State) : Host.Outcome State Fault Refusal :=
  arithA s (.direct m) (add8 s.a · 0)

/-- ADD A,C (R227). -/
def execAddAC (s : State) : Host.Outcome State Fault Refusal :=
  arithAC s (add8 s.a · 0)

/-- ADD A,[m:B] (R227). -/
def execAddAX (m : BitVec 7) (s : State) : Host.Outcome State Fault Refusal :=
  arithA s (.indexed m) (add8 s.a · 0)

/-- ADDC A,[m] (R228). -/
def execAddcAD (m : BitVec 7) (s : State) : Host.Outcome State Fault Refusal :=
  arithA s (.direct m) (add8 s.a · s.carry)

/-- ADDC A,C (R228). -/
def execAddcAC (s : State) : Host.Outcome State Fault Refusal :=
  arithAC s (add8 s.a · s.carry)

/-- ADDC A,[m:B] (R228). -/
def execAddcAX (m : BitVec 7) (s : State) : Host.Outcome State Fault Refusal :=
  arithA s (.indexed m) (add8 s.a · s.carry)

/-- DEC [m] (R229). -/
def execDecD (m : BitVec 7) (s : State) : Host.Outcome State Fault Refusal :=
  arithMem s (.direct m) (sub8 · 1#8 0)

/-- DEC [A:B] (R229). -/
def execDecP (s : State) : Host.Outcome State Fault Refusal :=
  arithMem s .pointer (sub8 · 1#8 0)

/-- DEC [m:B] (R229). -/
def execDecX (m : BitVec 7) (s : State) : Host.Outcome State Fault Refusal :=
  arithMem s (.indexed m) (sub8 · 1#8 0)

/-- DECC [m] (R230). -/
def execDeccD (m : BitVec 7) (s : State) : Host.Outcome State Fault Refusal :=
  arithMem s (.direct m) (sub8 · 0#8 s.carry)

/-- DECC [A:B] (R230). -/
def execDeccP (s : State) : Host.Outcome State Fault Refusal :=
  arithMem s .pointer (sub8 · 0#8 s.carry)

/-- DECC [m:B] (R230). -/
def execDeccX (m : BitVec 7) (s : State) : Host.Outcome State Fault Refusal :=
  arithMem s (.indexed m) (sub8 · 0#8 s.carry)

/-- DECX [m] (R231). -/
def execDecxD (m : BitVec 7) (s : State) : Host.Outcome State Fault Refusal :=
  arithMemX s (.direct m) (sub8 · 1#8 0)

/-- DECX [A:B] (R231). -/
def execDecxP (s : State) : Host.Outcome State Fault Refusal :=
  arithMemX s .pointer (sub8 · 1#8 0)

/-- DECX [m:B] (R231). -/
def execDecxX (m : BitVec 7) (s : State) : Host.Outcome State Fault Refusal :=
  arithMemX s (.indexed m) (sub8 · 1#8 0)

/-- DECXC [m] (R232). -/
def execDecxcD (m : BitVec 7) (s : State) : Host.Outcome State Fault Refusal :=
  arithMemX s (.direct m) (sub8 · 0#8 s.carry)

/-- DECXC [A:B] (R232). -/
def execDecxcP (s : State) : Host.Outcome State Fault Refusal :=
  arithMemX s .pointer (sub8 · 0#8 s.carry)

/-- DECXC [m:B] (R232). -/
def execDecxcX (m : BitVec 7) (s : State) : Host.Outcome State Fault Refusal :=
  arithMemX s (.indexed m) (sub8 · 0#8 s.carry)

/-- SUB [m] (R233), the register operand is C for `[A:B]` and A otherwise. -/
def execSubMemD (m : BitVec 7) (s : State) : Host.Outcome State Fault Refusal :=
  arithMem s (.direct m) (sub8 · (s.regOperand (.direct m)) 0)

/-- SUB [A:B] (R233), the register operand is C for `[A:B]` and A otherwise. -/
def execSubMemP (s : State) : Host.Outcome State Fault Refusal :=
  arithMem s .pointer (sub8 · (s.regOperand .pointer) 0)

/-- SUB [m:B] (R233), the register operand is C for `[A:B]` and A otherwise. -/
def execSubMemX (m : BitVec 7) (s : State) : Host.Outcome State Fault Refusal :=
  arithMem s (.indexed m) (sub8 · (s.regOperand (.indexed m)) 0)

/-- SUBC [m] (R234), the register operand is C for `[A:B]` and A otherwise. -/
def execSubcMemD (m : BitVec 7) (s : State) : Host.Outcome State Fault Refusal :=
  arithMem s (.direct m) (sub8 · (s.regOperand (.direct m)) s.carry)

/-- SUBC [A:B] (R234), the register operand is C for `[A:B]` and A otherwise. -/
def execSubcMemP (s : State) : Host.Outcome State Fault Refusal :=
  arithMem s .pointer (sub8 · (s.regOperand .pointer) s.carry)

/-- SUBC [m:B] (R234), the register operand is C for `[A:B]` and A otherwise. -/
def execSubcMemX (m : BitVec 7) (s : State) : Host.Outcome State Fault Refusal :=
  arithMem s (.indexed m) (sub8 · (s.regOperand (.indexed m)) s.carry)

/-! The A-destination subtractions are reversed: the operand is the minuend, A the subtrahend (R235). -/

/-- SUB A,[m] (R235). -/
def execSubAD (m : BitVec 7) (s : State) : Host.Outcome State Fault Refusal :=
  arithA s (.direct m) (sub8 · s.a 0)

/-- SUB A,C (R235). -/
def execSubAC (s : State) : Host.Outcome State Fault Refusal :=
  arithAC s (sub8 · s.a 0)

/-- SUB A,[m:B] (R235). -/
def execSubAX (m : BitVec 7) (s : State) : Host.Outcome State Fault Refusal :=
  arithA s (.indexed m) (sub8 · s.a 0)

/-- SUBC A,[m] (R236). -/
def execSubcAD (m : BitVec 7) (s : State) : Host.Outcome State Fault Refusal :=
  arithA s (.direct m) (sub8 · s.a s.carry)

/-- SUBC A,C (R236). -/
def execSubcAC (s : State) : Host.Outcome State Fault Refusal :=
  arithAC s (sub8 · s.a s.carry)

/-- SUBC A,[m:B] (R236). -/
def execSubcAX (m : BitVec 7) (s : State) : Host.Outcome State Fault Refusal :=
  arithA s (.indexed m) (sub8 · s.a s.carry)

end Sys2Proof.Machine
end

