-- ==== Sys2Proof/Machine/Branch.lean ====
section
/-! DEFINITION. Jumps, branch-and-link and relative branches, OP 10 to 1B (spec/43_branch.md R180 to R207). A branch writes the
active counter; one not taken leaves it at `next` (R180). -/

namespace Sys2Proof.Machine

/-- A jump, if `taken`. -/
def jumpIf (s : State) (taken : Bool) (t : Counter) : Host.Outcome State Fault Refusal :=
  finish (if taken then s.setCnt t else s)

/-- A branch that links, if `taken`: the target is formed from the old A and B, the link is written only when the branch
is taken (R188). -/
def linkIf (s : State) (taken : Bool) (t : Counter) : Host.Outcome State Fault Refusal :=
  finish (if taken then (s.setAB s.link).setCnt t else s)

/-- `JMP 121` and `BAL 121` are not taken while the JSIG121 option is enabled and the signal is 0 (R189). -/
def State.jsigTaken (s : State) (m : BitVec 7) : Bool :=
  !(decide (m = 121#7) && s.cfg.jsig121Enabled && !s.lines.jsig121)

/-- The target of the `A:B` forms. -/
def State.targetAB (s : State) : Counter := wordTarget (pair s.a s.b)

/-- The target of the `m:B` forms (R187). -/
def State.targetMB (s : State) (m : BitVec 7) : Counter := wordTarget ((m ++ s.b).setWidth 16)

/-- JMP m: to byte address 2m, OF not added (R181, R189). -/
def execJmpM (m : BitVec 7) (s : State) : Host.Outcome State Fault Refusal :=
  jumpIf s (s.jsigTaken m) (wordTarget (m.setWidth 16))

/-- JMPC0 A:B (R182). -/
def execJmpC0 (s : State) : Host.Outcome State Fault Refusal :=
  jumpIf s (!s.cf) s.targetAB

/-- JMPC1 A:B (R183). -/
def execJmpC1 (s : State) : Host.Outcome State Fault Refusal :=
  jumpIf s s.cf s.targetAB

/-- JMPZ0 A:B (R184). -/
def execJmpZ0 (s : State) : Host.Outcome State Fault Refusal :=
  jumpIf s (!s.zf) s.targetAB

/-- JMPZ1 A:B (R185). -/
def execJmpZ1 (s : State) : Host.Outcome State Fault Refusal :=
  jumpIf s s.zf s.targetAB

/-- JMP A:B (R186). -/
def execJmpP (s : State) : Host.Outcome State Fault Refusal :=
  jumpIf s true s.targetAB

/-- JMP m:B (R187). -/
def execJmpX (m : BitVec 7) (s : State) : Host.Outcome State Fault Refusal :=
  jumpIf s true (s.targetMB m)

/-- BAL m: to byte address 2m, OF not added (R191, R189). -/
def execBalM (m : BitVec 7) (s : State) : Host.Outcome State Fault Refusal :=
  linkIf s (s.jsigTaken m) (wordTarget (m.setWidth 16))

/-- BALC0 A:B (R192). -/
def execBalC0 (s : State) : Host.Outcome State Fault Refusal :=
  linkIf s (!s.cf) s.targetAB

/-- BALC1 A:B (R193). -/
def execBalC1 (s : State) : Host.Outcome State Fault Refusal :=
  linkIf s s.cf s.targetAB

/-- BALZ0 A:B (R194). -/
def execBalZ0 (s : State) : Host.Outcome State Fault Refusal :=
  linkIf s (!s.zf) s.targetAB

/-- BALZ1 A:B (R195). -/
def execBalZ1 (s : State) : Host.Outcome State Fault Refusal :=
  linkIf s s.zf s.targetAB

/-- BAL A:B (R196). -/
def execBalP (s : State) : Host.Outcome State Fault Refusal :=
  linkIf s true s.targetAB

/-- BAL m:B (R197). -/
def execBalX (m : BitVec 7) (s : State) : Host.Outcome State Fault Refusal :=
  linkIf s true (s.targetMB m)

/-- JR n, n ≥ 0 (R198, R190). -/
def execJrFwd (n : Byte) (s : State) : Host.Outcome State Fault Refusal :=
  jumpIf s true (s.relTarget n)

/-- JR B: the offset is B, signed (R198, R190). -/
def execJrB (s : State) : Host.Outcome State Fault Refusal :=
  jumpIf s true (s.relTarget s.b)

/-- JR n, n < 0 (R198, R190). -/
def execJrBack (n : Byte) (s : State) : Host.Outcome State Fault Refusal :=
  jumpIf s true (s.relTarget n)

/-- BR n, n ≥ 0 (R199, R190). -/
def execBrFwd (n : Byte) (s : State) : Host.Outcome State Fault Refusal :=
  linkIf s true (s.relTarget n)

/-- BR B: the offset is B, signed (R199, R190). -/
def execBrB (s : State) : Host.Outcome State Fault Refusal :=
  linkIf s true (s.relTarget s.b)

/-- BR n, n < 0 (R199, R190). -/
def execBrBack (n : Byte) (s : State) : Host.Outcome State Fault Refusal :=
  linkIf s true (s.relTarget n)

/-- JRC0 n, n ≥ 0 (R200, R190). -/
def execJrc0Fwd (n : Byte) (s : State) : Host.Outcome State Fault Refusal :=
  jumpIf s (!s.cf) (s.relTarget n)

/-- JRC0 B: the offset is B, signed (R200, R190). -/
def execJrc0B (s : State) : Host.Outcome State Fault Refusal :=
  jumpIf s (!s.cf) (s.relTarget s.b)

/-- JRC0 n, n < 0 (R200, R190). -/
def execJrc0Back (n : Byte) (s : State) : Host.Outcome State Fault Refusal :=
  jumpIf s (!s.cf) (s.relTarget n)

/-- BRC0 n, n ≥ 0 (R201, R190). -/
def execBrc0Fwd (n : Byte) (s : State) : Host.Outcome State Fault Refusal :=
  linkIf s (!s.cf) (s.relTarget n)

/-- BRC0 B: the offset is B, signed (R201, R190). -/
def execBrc0B (s : State) : Host.Outcome State Fault Refusal :=
  linkIf s (!s.cf) (s.relTarget s.b)

/-- BRC0 n, n < 0 (R201, R190). -/
def execBrc0Back (n : Byte) (s : State) : Host.Outcome State Fault Refusal :=
  linkIf s (!s.cf) (s.relTarget n)

/-- JRC1 n, n ≥ 0 (R202, R190). -/
def execJrc1Fwd (n : Byte) (s : State) : Host.Outcome State Fault Refusal :=
  jumpIf s s.cf (s.relTarget n)

/-- JRC1 B: the offset is B, signed (R202, R190). -/
def execJrc1B (s : State) : Host.Outcome State Fault Refusal :=
  jumpIf s s.cf (s.relTarget s.b)

/-- JRC1 n, n < 0 (R202, R190). -/
def execJrc1Back (n : Byte) (s : State) : Host.Outcome State Fault Refusal :=
  jumpIf s s.cf (s.relTarget n)

/-- BRC1 n, n ≥ 0 (R203, R190). -/
def execBrc1Fwd (n : Byte) (s : State) : Host.Outcome State Fault Refusal :=
  linkIf s s.cf (s.relTarget n)

/-- BRC1 B: the offset is B, signed (R203, R190). -/
def execBrc1B (s : State) : Host.Outcome State Fault Refusal :=
  linkIf s s.cf (s.relTarget s.b)

/-- BRC1 n, n < 0 (R203, R190). -/
def execBrc1Back (n : Byte) (s : State) : Host.Outcome State Fault Refusal :=
  linkIf s s.cf (s.relTarget n)

/-- JRZ0 n, n ≥ 0 (R204, R190). -/
def execJrz0Fwd (n : Byte) (s : State) : Host.Outcome State Fault Refusal :=
  jumpIf s (!s.zf) (s.relTarget n)

/-- JRZ0 B: the offset is B, signed (R204, R190). -/
def execJrz0B (s : State) : Host.Outcome State Fault Refusal :=
  jumpIf s (!s.zf) (s.relTarget s.b)

/-- JRZ0 n, n < 0 (R204, R190). -/
def execJrz0Back (n : Byte) (s : State) : Host.Outcome State Fault Refusal :=
  jumpIf s (!s.zf) (s.relTarget n)

/-- BRZ0 n, n ≥ 0 (R205, R190). -/
def execBrz0Fwd (n : Byte) (s : State) : Host.Outcome State Fault Refusal :=
  linkIf s (!s.zf) (s.relTarget n)

/-- BRZ0 B: the offset is B, signed (R205, R190). -/
def execBrz0B (s : State) : Host.Outcome State Fault Refusal :=
  linkIf s (!s.zf) (s.relTarget s.b)

/-- BRZ0 n, n < 0 (R205, R190). -/
def execBrz0Back (n : Byte) (s : State) : Host.Outcome State Fault Refusal :=
  linkIf s (!s.zf) (s.relTarget n)

/-- JRZ1 n, n ≥ 0 (R206, R190). -/
def execJrz1Fwd (n : Byte) (s : State) : Host.Outcome State Fault Refusal :=
  jumpIf s s.zf (s.relTarget n)

/-- JRZ1 B: the offset is B, signed (R206, R190). -/
def execJrz1B (s : State) : Host.Outcome State Fault Refusal :=
  jumpIf s s.zf (s.relTarget s.b)

/-- JRZ1 n, n < 0 (R206, R190). -/
def execJrz1Back (n : Byte) (s : State) : Host.Outcome State Fault Refusal :=
  jumpIf s s.zf (s.relTarget n)

/-- BRZ1 n, n ≥ 0 (R207, R190). -/
def execBrz1Fwd (n : Byte) (s : State) : Host.Outcome State Fault Refusal :=
  linkIf s s.zf (s.relTarget n)

/-- BRZ1 B: the offset is B, signed (R207, R190). -/
def execBrz1B (s : State) : Host.Outcome State Fault Refusal :=
  linkIf s s.zf (s.relTarget s.b)

/-- BRZ1 n, n < 0 (R207, R190). -/
def execBrz1Back (n : Byte) (s : State) : Host.Outcome State Fault Refusal :=
  linkIf s s.zf (s.relTarget n)

end Sys2Proof.Machine
end

