-- ==== Sys2Proof/Machine/Control.lean ====
section
/-! DEFINITION. NOP and the control group, OP 00 and OP 01 (spec/40_nop_and_control.md R101 to R126). The active counter holds
`next` when a meaning starts; unless a rule says otherwise the instruction leaves it there and clears PA (`finish`). -/

namespace Sys2Proof.Machine

/-- NOP: nothing (R101); every operand byte is NOP (decision D21). -/
def execNop (_xx : Byte) (s : State) : Host.Outcome State Fault Refusal :=
  finish s

/-- LD A,B (R102). -/
def execLdAB (s : State) : Host.Outcome State Fault Refusal :=
  finish { s with a := s.b }

/-- LD B,A (R103). -/
def execLdBA (s : State) : Host.Outcome State Fault Refusal :=
  finish { s with b := s.a }

/-- SWAP: both reads see the old values (R104). -/
def execSwap (s : State) : Host.Outcome State Fault Refusal :=
  finish { s with a := s.b, b := s.a }

/-- LD B,C (R105). -/
def execLdBC (s : State) : Host.Outcome State Fault Refusal :=
  finish { s with b := s.c }

/-- The 16-bit value GETPC and GETMC move: the counter shifted right by `PC_XFER_SHIFT`, its low 16 bits (R106, R107). -/
def State.counterWord (s : State) (v : Counter) : Addr :=
  if s.cfg.pcXferShift then (v >>> 1).setWidth 16 else v.setWidth 16

/-- The counter value SETPC and SETMC form from A:B, before it is wrapped to `W` bits (R108, R109). -/
def State.wordCounter (s : State) : Counter :=
  if s.cfg.pcXferShift then wordTarget (pair s.a s.b) else (pair s.a s.b).setWidth 17

/-- GETPC: the register PC, active or not (R106). -/
def execGetpc (s : State) : Host.Outcome State Fault Refusal :=
  finish (s.setAB (s.counterWord s.pc))

/-- GETMC: the register MC, active or not (R107). -/
def execGetmc (s : State) : Host.Outcome State Fault Refusal :=
  finish (s.setAB (s.counterWord s.mc))

/-- SETPC: the register PC, active or not; an odd value is refused (R108, R52). -/
def execSetpc (s : State) : Host.Outcome State Fault Refusal :=
  if s.wordCounter.getLsbD 0 then .refused (.oddCounter s.wordCounter)
  else finish (s.setPc s.wordCounter)

/-- SETMC: the register MC, active or not; an odd value is refused (R109, R52). -/
def execSetmc (s : State) : Host.Outcome State Fault Refusal :=
  if s.wordCounter.getLsbD 0 then .refused (.oddCounter s.wordCounter)
  else finish (s.setMc s.wordCounter)

/-- USERMODE k: UF <- k, without effect on a core without user mode (R110). -/
def execUsermode (k : BitVec 1) (s : State) : Host.Outcome State Fault Refusal :=
  finish (s.setUF (k.getLsbD 0))

/-- OFFSET k: OF <- k (R111). -/
def execOffset (k : BitVec 2) (s : State) : Host.Outcome State Fault Refusal :=
  finish { s with ofs := k }

/-- GETSTAT: the status register to A; AE is not cleared (R112). -/
def execGetstat (s : State) : Host.Outcome State Fault Refusal :=
  finish { s with a := s.statusByte }

/-- GETVER: C <- VERSION; refused on a core without it (R113). -/
def execGetver (s : State) : Host.Outcome State Fault Refusal :=
  if s.cfg.hasInfoRegs then finish { s with c := s.cfg.version } else .refused .infoRegsAbsent

/-- GETID: C <- ID; refused on a core without it (R114). -/
def execGetid (s : State) : Host.Outcome State Fault Refusal :=
  if s.cfg.hasInfoRegs then finish { s with c := s.cfg.ident } else .refused .infoRegsAbsent

/-- CPUINFO: C <- CPUINFO; refused on a core without it (R115). -/
def execCpuinfo (s : State) : Host.Outcome State Fault Refusal :=
  if s.cfg.hasInfoRegs then finish { s with c := s.cfg.cpuInfo } else .refused .infoRegsAbsent

/-- CLEAR 1: AE <- 0 (R116). -/
def execClear1 (s : State) : Host.Outcome State Fault Refusal :=
  finish { s with ae := false }

/-- CLC: CF <- 0 (R119). -/
def execClc (s : State) : Host.Outcome State Fault Refusal :=
  finish { s with cf := false }

/-- PMEMACC: PA <- 1, and PA is not cleared at its end; refused on a core without it (R120). -/
def execPmemacc (s : State) : Host.Outcome State Fault Refusal :=
  if s.cfg.hasPmemacc then .next { s with pa := true } else .refused .pmemaccAbsent

/-- INT k: interrupt entry whatever EF is; refused while IF = 1 (R121, R318, R325). -/
def execInt (k : BitVec 4) (s : State) : Host.Outcome State Fault Refusal :=
  if s.inInt then .refused .intInInterrupt else finish (s.enterInterrupt k)

/-- DISABLE: EF <- 0 (R122). -/
def execDisable (s : State) : Host.Outcome State Fault Refusal :=
  finish { s with ef := false }

/-- ENABLE: EF <- 1 (R123). -/
def execEnable (s : State) : Host.Outcome State Fault Refusal :=
  finish { s with ef := true }

/-- INPUTA: A <- PortIn(C) (R124). -/
def execInputa (s : State) : Host.Outcome State Fault Refusal :=
  finish { (s.portIn s.c).2 with a := (s.portIn s.c).1 }

/-- OUTPUTB: PortOut(C, B) (R125). -/
def execOutputb (s : State) : Host.Outcome State Fault Refusal :=
  finish (s.portOut s.c s.b)

/-- INOUT: the output event first, then the input, both on port C (R126). -/
def execInout (s : State) : Host.Outcome State Fault Refusal :=
  let t := (s.portOut s.c s.b).portIn s.c
  finish { t.2 with a := t.1 }

end Sys2Proof.Machine
end

