-- ==== Sys2Proof/Syntax.lean ====
section
/-! DEFINITION. The instructions of the WZeta SDog core: one constructor per row of spec/opcode_table.json, in the
table's order. A name ends in D, P or X for the operand forms `[m]`, `[A:B]` and `[m:B]` of R84, in C for register C
(xx = 127), in N for an immediate; `Fwd` and `Back` are relative offsets n ≥ 0 (or 1) and n < 0, `B` the offset in
register B. Reserved rows are constructors too; their meanings refuse (R90). -/

namespace Sys2Proof

/-- One row of the opcode table with its operand fields. A relative offset is its two's complement byte. -/
inductive Instr where
  /-- NOP, any operand byte (R101). -/
  | nop (xx : Byte)
  /-- OP 01, xx 00h: reserved (R89). -/
  | rsv01At00
  /-- LD A,B (R102). -/
  | ldAB
  /-- LD B,A (R103). -/
  | ldBA
  /-- SWAP (R104). -/
  | swap
  /-- OP 01, xx 04h to 1Fh: reserved (R89). -/
  | rsv01From04 (xx : Byte)
  /-- LD B,C (R105). -/
  | ldBC
  /-- GETPC (R106). -/
  | getpc
  /-- GETMC (R107). -/
  | getmc
  /-- OP 01, xx 23h: reserved (R89). -/
  | rsv01At23
  /-- SETPC (R108). -/
  | setpc
  /-- OP 01, xx 25h to 27h: reserved (R89). -/
  | rsv01From25 (xx : Byte)
  /-- SETMC (R109). -/
  | setmc
  /-- OP 01, xx 29h to 2Fh: reserved (R89). -/
  | rsv01From29 (xx : Byte)
  /-- USERMODE k, k = 0 or 1 (R110). -/
  | usermode (k : BitVec 1)
  /-- OP 01, xx 32h to 3Fh: reserved (R89). -/
  | rsv01From32 (xx : Byte)
  /-- OFFSET k, k = 0 to 3 (R111). -/
  | offset (k : BitVec 2)
  /-- OP 01, xx 44h to 50h: reserved (R89). -/
  | rsv01From44 (xx : Byte)
  /-- GETSTAT (R112). -/
  | getstat
  /-- GETVER (R113). -/
  | getver
  /-- OP 01, xx 53h: reserved (R89). -/
  | rsv01At53
  /-- GETID (R114). -/
  | getid
  /-- OP 01, xx 55h to 57h: reserved (R89). -/
  | rsv01From55 (xx : Byte)
  /-- CPUINFO (R115). -/
  | cpuinfo
  /-- OP 01, xx 59h to 5Fh: reserved (R89). -/
  | rsv01From59 (xx : Byte)
  /-- CLEAR 0: reserved (R116). -/
  | clear0
  /-- CLEAR 1, clears AE (R116). -/
  | clear1
  /-- CLEAR k, k = 2 to 15: reserved (R116). -/
  | clearK (k : BitVec 4)
  /-- OP 01, xx 70h to C0h: reserved (R89). -/
  | rsv01From70 (xx : Byte)
  /-- (LOAD): optional, undescribed (R118). -/
  | loadOpt
  /-- (SAVE): optional, undescribed (R118). -/
  | saveOpt
  /-- OP 01, xx C3h: reserved (R89). -/
  | rsv01AtC3
  /-- CLC (R119). -/
  | clc
  /-- OP 01, xx C5h to C7h: reserved (R89). -/
  | rsv01FromC5 (xx : Byte)
  /-- PMEMACC (R120). -/
  | pmemacc
  /-- OP 01, xx C9h to CFh: reserved (R89). -/
  | rsv01FromC9 (xx : Byte)
  /-- INT k (R121). -/
  | int (k : BitVec 4)
  /-- DISABLE (R122). -/
  | disable
  /-- ENABLE (R123). -/
  | enable
  /-- OP 01, xx E2h to F0h: reserved (R89). -/
  | rsv01FromE2 (xx : Byte)
  /-- INPUTA (R124). -/
  | inputa
  /-- OUTPUTB (R125). -/
  | outputb
  /-- INOUT (R126). -/
  | inout
  /-- OP 01, xx F4h to FFh: reserved (R89). -/
  | rsv01FromF4 (xx : Byte)
  /-- LD A,n (R141). -/
  | ldAN (n : Byte)
  /-- LD B,n (R142). -/
  | ldBN (n : Byte)
  /-- LD C,n (R144). -/
  | ldCN (n : Byte)
  /-- SETFLAG [m] (R143). -/
  | setflagD (m : BitVec 7)
  /-- SETFLAG [A:B] (R143). -/
  | setflagP
  /-- SETFLAG [m:B] (R143). -/
  | setflagX (m : BitVec 7)
  /-- ST [m],A (R145). -/
  | stAD (m : BitVec 7)
  /-- ROOPSHLC: undecided, reserved (R147). -/
  | roopshlc
  /-- ST [m:B],A (R145). -/
  | stAX (m : BitVec 7)
  /-- ST [m],B (R146). -/
  | stBD (m : BitVec 7)
  /-- ROOPSHRC: undecided, reserved (R147). -/
  | roopshrc
  /-- ZERO [m], address m:B (R148). -/
  | zeroX (m : BitVec 7)
  /-- SHL [m] (R160). -/
  | shlD (m : BitVec 7)
  /-- SHL [A:B] (R160). -/
  | shlP
  /-- SHL [m:B] (R160). -/
  | shlX (m : BitVec 7)
  /-- SHR [m] (R161). -/
  | shrD (m : BitVec 7)
  /-- SHR [A:B] (R161). -/
  | shrP
  /-- SHR [m:B] (R161). -/
  | shrX (m : BitVec 7)
  /-- AND [m],A (R162). -/
  | andMemD (m : BitVec 7)
  /-- AND [A:B],C (R162). -/
  | andMemP
  /-- AND [m:B],A (R162). -/
  | andMemX (m : BitVec 7)
  /-- ST [m],C (R149). -/
  | stCD (m : BitVec 7)
  /-- ST [A:B],C (R149). -/
  | stCP
  /-- ST [m:B],C (R149). -/
  | stCX (m : BitVec 7)
  /-- XOR [m],A (R163). -/
  | xorMemD (m : BitVec 7)
  /-- XOR [A:B],C (R163). -/
  | xorMemP
  /-- XOR [m:B],A (R163). -/
  | xorMemX (m : BitVec 7)
  /-- GETFLAG [m] (R150). -/
  | getflagD (m : BitVec 7)
  /-- GETFLAG [A:B] (R150). -/
  | getflagP
  /-- GETFLAG [m:B] (R150). -/
  | getflagX (m : BitVec 7)
  /-- OR [m],A (R164). -/
  | orMemD (m : BitVec 7)
  /-- OR [A:B],C (R164). -/
  | orMemP
  /-- OR [m:B],A (R164). -/
  | orMemX (m : BitVec 7)
  /-- OP 0F: unused (R89). -/
  | unused0F (xx : Byte)
  /-- JMP m (R181). -/
  | jmpM (m : BitVec 7)
  /-- JMPC0 A:B (R182). -/
  | jmpC0
  /-- JMPC1 A:B (R183). -/
  | jmpC1
  /-- JMPZ0 A:B (R184). -/
  | jmpZ0
  /-- JMPZ1 A:B (R185). -/
  | jmpZ1
  /-- OP 10, xx 7Eh: reserved (R89). -/
  | rsv10At7E
  /-- JMP A:B (R186). -/
  | jmpP
  /-- JMP m:B (R187). -/
  | jmpX (m : BitVec 7)
  /-- BAL m (R191). -/
  | balM (m : BitVec 7)
  /-- BALC0 A:B (R192). -/
  | balC0
  /-- BALC1 A:B (R193). -/
  | balC1
  /-- BALZ0 A:B (R194). -/
  | balZ0
  /-- BALZ1 A:B (R195). -/
  | balZ1
  /-- OP 11, xx 7Eh: reserved (R89). -/
  | rsv11At7E
  /-- BAL A:B (R196). -/
  | balP
  /-- BAL m:B (R197). -/
  | balX (m : BitVec 7)
  /-- JR n, n ≥ 0 (R198). -/
  | jrFwd (n : Byte)
  /-- OP 12, xx 7Fh: not usable (R190). -/
  | unusable12
  /-- JR B (R198). -/
  | jrB
  /-- JR n, n < 0 as a two's complement byte (R198). -/
  | jrBack (n : Byte)
  /-- BR n, n ≥ 0 (R199). -/
  | brFwd (n : Byte)
  /-- OP 13, xx 7Fh: not usable (R190). -/
  | unusable13
  /-- BR B (R199). -/
  | brB
  /-- BR n, n < 0 as a two's complement byte (R199). -/
  | brBack (n : Byte)
  /-- JRC0 n, n ≥ 0 (R200). -/
  | jrc0Fwd (n : Byte)
  /-- OP 14, xx 7Fh: not usable (R190). -/
  | unusable14
  /-- JRC0 B (R200). -/
  | jrc0B
  /-- JRC0 n, n < 0 as a two's complement byte (R200). -/
  | jrc0Back (n : Byte)
  /-- BRC0 n, n ≥ 0 (R201). -/
  | brc0Fwd (n : Byte)
  /-- OP 15, xx 7Fh: not usable (R190). -/
  | unusable15
  /-- BRC0 B (R201). -/
  | brc0B
  /-- BRC0 n, n < 0 as a two's complement byte (R201). -/
  | brc0Back (n : Byte)
  /-- JRC1 n, n ≥ 0 (R202). -/
  | jrc1Fwd (n : Byte)
  /-- OP 16, xx 7Fh: not usable (R190). -/
  | unusable16
  /-- JRC1 B (R202). -/
  | jrc1B
  /-- JRC1 n, n < 0 as a two's complement byte (R202). -/
  | jrc1Back (n : Byte)
  /-- BRC1 n, n ≥ 0 (R203). -/
  | brc1Fwd (n : Byte)
  /-- OP 17, xx 7Fh: not usable (R190). -/
  | unusable17
  /-- BRC1 B (R203). -/
  | brc1B
  /-- BRC1 n, n < 0 as a two's complement byte (R203). -/
  | brc1Back (n : Byte)
  /-- JRZ0 n, n ≥ 0 (R204). -/
  | jrz0Fwd (n : Byte)
  /-- OP 18, xx 7Fh: not usable (R190). -/
  | unusable18
  /-- JRZ0 B (R204). -/
  | jrz0B
  /-- JRZ0 n, n < 0 as a two's complement byte (R204). -/
  | jrz0Back (n : Byte)
  /-- BRZ0 n, n ≥ 0 (R205). -/
  | brz0Fwd (n : Byte)
  /-- OP 19, xx 7Fh: not usable (R190). -/
  | unusable19
  /-- BRZ0 B (R205). -/
  | brz0B
  /-- BRZ0 n, n < 0 as a two's complement byte (R205). -/
  | brz0Back (n : Byte)
  /-- JRZ1 n, n ≥ 0 (R206). -/
  | jrz1Fwd (n : Byte)
  /-- OP 1A, xx 7Fh: not usable (R190). -/
  | unusable1A
  /-- JRZ1 B (R206). -/
  | jrz1B
  /-- JRZ1 n, n < 0 as a two's complement byte (R206). -/
  | jrz1Back (n : Byte)
  /-- BRZ1 n, n ≥ 0 (R207). -/
  | brz1Fwd (n : Byte)
  /-- OP 1B, xx 7Fh: not usable (R190). -/
  | unusable1B
  /-- BRZ1 B (R207). -/
  | brz1B
  /-- BRZ1 n, n < 0 as a two's complement byte (R207). -/
  | brz1Back (n : Byte)
  /-- OP 1C: unused (R89). -/
  | unused1C (xx : Byte)
  /-- IN [m] (R210). -/
  | inD (m : BitVec 7)
  /-- IN [A:B] (R210). -/
  | inP
  /-- IN [m:B] (R210). -/
  | inX (m : BitVec 7)
  /-- OUT [m] (R211). -/
  | outD (m : BitVec 7)
  /-- OUT [A:B] (R211). -/
  | outP
  /-- OUT [m:B] (R211). -/
  | outX (m : BitVec 7)
  /-- RETI [m] (R212). -/
  | reti (m : BitVec 7)
  /-- OP 1F, xx 7Fh: reserved (R212). -/
  | rsv1FAt7F
  /-- OP 1F, xx ≥ 80h: reserved (R212). -/
  | rsv1FFrom80 (m : BitVec 7)
  /-- INC [m] (R221). -/
  | incD (m : BitVec 7)
  /-- INC [A:B] (R221). -/
  | incP
  /-- INC [m:B] (R221). -/
  | incX (m : BitVec 7)
  /-- INCC [m] (R222). -/
  | inccD (m : BitVec 7)
  /-- INCC [A:B] (R222). -/
  | inccP
  /-- INCC [m:B] (R222). -/
  | inccX (m : BitVec 7)
  /-- INCX [m] (R223). -/
  | incxD (m : BitVec 7)
  /-- INCX [A:B] (R223). -/
  | incxP
  /-- INCX [m:B] (R223). -/
  | incxX (m : BitVec 7)
  /-- INCXC [m] (R224). -/
  | incxcD (m : BitVec 7)
  /-- INCXC [A:B] (R224). -/
  | incxcP
  /-- INCXC [m:B] (R224). -/
  | incxcX (m : BitVec 7)
  /-- ADD [m],A (R225). -/
  | addMemD (m : BitVec 7)
  /-- ADD [A:B],C (R225). -/
  | addMemP
  /-- ADD [m:B],A (R225). -/
  | addMemX (m : BitVec 7)
  /-- ADDC [m],A (R226). -/
  | addcMemD (m : BitVec 7)
  /-- ADDC [A:B],C (R226). -/
  | addcMemP
  /-- ADDC [m:B],A (R226). -/
  | addcMemX (m : BitVec 7)
  /-- ADD A,[m] (R227). -/
  | addAD (m : BitVec 7)
  /-- ADD A,C (R227). -/
  | addAC
  /-- ADD A,[m:B] (R227). -/
  | addAX (m : BitVec 7)
  /-- ADDC A,[m] (R228). -/
  | addcAD (m : BitVec 7)
  /-- ADDC A,C (R228). -/
  | addcAC
  /-- ADDC A,[m:B] (R228). -/
  | addcAX (m : BitVec 7)
  /-- SHLC [m] (R165). -/
  | shlcD (m : BitVec 7)
  /-- SHLC [A:B] (R165). -/
  | shlcP
  /-- SHLC [m:B] (R165). -/
  | shlcX (m : BitVec 7)
  /-- SHRC [m] (R166). -/
  | shrcD (m : BitVec 7)
  /-- SHRC [A:B] (R166). -/
  | shrcP
  /-- SHRC [m:B] (R166). -/
  | shrcX (m : BitVec 7)
  /-- LD A,[m] (R260). -/
  | ldAD (m : BitVec 7)
  /-- LD A,[A:B] (R260). -/
  | ldAP
  /-- LD A,[m:B] (R260). -/
  | ldAX (m : BitVec 7)
  /-- LD B,[m] (R261). -/
  | ldBD (m : BitVec 7)
  /-- LD B,[A:B] (R261). -/
  | ldBP
  /-- LD B,[m:B] (R261). -/
  | ldBX (m : BitVec 7)
  /-- LD C,[m] (R262). -/
  | ldCD (m : BitVec 7)
  /-- LD C,[A:B] (R262). -/
  | ldCP
  /-- LD C,[m:B] (R262). -/
  | ldCX (m : BitVec 7)
  /-- STACP [m] (R263). -/
  | stacpD (m : BitVec 7)
  /-- STACP [A:B] (R263). -/
  | stacpP
  /-- STACP [m:B] (R263). -/
  | stacpX (m : BitVec 7)
  /-- STAB [m] (R264). -/
  | stabD (m : BitVec 7)
  /-- STAC [A:B] (R265). -/
  | stac
  /-- STAB [m:B] (R264). -/
  | stabX (m : BitVec 7)
  /-- STABP [m] (R266). -/
  | stabpD (m : BitVec 7)
  /-- STZCP [A:B] (R267). -/
  | stzcp
  /-- STABP [m:B] (R266). -/
  | stabpX (m : BitVec 7)
  /-- DEC [m] (R229). -/
  | decD (m : BitVec 7)
  /-- DEC [A:B] (R229). -/
  | decP
  /-- DEC [m:B] (R229). -/
  | decX (m : BitVec 7)
  /-- DECC [m] (R230). -/
  | deccD (m : BitVec 7)
  /-- DECC [A:B] (R230). -/
  | deccP
  /-- DECC [m:B] (R230). -/
  | deccX (m : BitVec 7)
  /-- DECX [m] (R231). -/
  | decxD (m : BitVec 7)
  /-- DECX [A:B] (R231). -/
  | decxP
  /-- DECX [m:B] (R231). -/
  | decxX (m : BitVec 7)
  /-- DECXC [m] (R232). -/
  | decxcD (m : BitVec 7)
  /-- DECXC [A:B] (R232). -/
  | decxcP
  /-- DECXC [m:B] (R232). -/
  | decxcX (m : BitVec 7)
  /-- SUB [m],A (R233). -/
  | subMemD (m : BitVec 7)
  /-- SUB [A:B],C (R233). -/
  | subMemP
  /-- SUB [m:B],A (R233). -/
  | subMemX (m : BitVec 7)
  /-- SUBC [m],A (R234). -/
  | subcMemD (m : BitVec 7)
  /-- SUBC [A:B],C (R234). -/
  | subcMemP
  /-- SUBC [m:B],A (R234). -/
  | subcMemX (m : BitVec 7)
  /-- SUB A,[m] (R235). -/
  | subAD (m : BitVec 7)
  /-- SUB A,C (R235). -/
  | subAC
  /-- SUB A,[m:B] (R235). -/
  | subAX (m : BitVec 7)
  /-- SUBC A,[m] (R236). -/
  | subcAD (m : BitVec 7)
  /-- SUBC A,C (R236). -/
  | subcAC
  /-- SUBC A,[m:B] (R236). -/
  | subcAX (m : BitVec 7)
  /-- LOOPDEC 0 (WAIT) (R282). -/
  | loopdecWait
  /-- LOOPDEC n, n ≥ 1 (R281). -/
  | loopdecFwd (n : Byte)
  /-- LOOPSHRC (R284). -/
  | loopshrc
  /-- LOOPDEC B, only on some cores (R283). -/
  | loopdecB
  /-- LOOPDEC n, n < 0 as a two's complement byte (R281). -/
  | loopdecBack (n : Byte)
  /-- LOOPZERO (R287). -/
  | loopzero
  /-- LOOPINC n, n ≥ 1 (R285). -/
  | loopincFwd (n : Byte)
  /-- LOOPSHLC (R286). -/
  | loopshlc
  /-- LOOPINC B, only on some cores (R288). -/
  | loopincB
  /-- LOOPINC n, n < 0 as a two's complement byte (R285). -/
  | loopincBack (n : Byte)
  /-- AND A,[m] (R291). -/
  | andAD (m : BitVec 7)
  /-- AND A,C (R291). -/
  | andAC
  /-- AND A,[m:B] (R291). -/
  | andAX (m : BitVec 7)
  /-- AND A,n (R292). -/
  | andAN (n : Byte)
  /-- XOR A,[m] (R293). -/
  | xorAD (m : BitVec 7)
  /-- XOR A,C (R293). -/
  | xorAC
  /-- XOR A,[m:B] (R293). -/
  | xorAX (m : BitVec 7)
  /-- XOR A,n (R294). -/
  | xorAN (n : Byte)
  /-- OR A,[m] (R295). -/
  | orAD (m : BitVec 7)
  /-- OR A,C (R295). -/
  | orAC
  /-- OR A,[m:B] (R295). -/
  | orAX (m : BitVec 7)
  /-- OR A,n (R296). -/
  | orAN (n : Byte)
  /-- MACRO op,xx: hard macro entry when MF = 0, millicode end when MF = 1 (R301, R302). -/
  | hardMacro (op : BitVec 6) (xx : Byte)
  /-- A word with opmsb = 1: its macro bit, OP and xx (R306). -/
  | opmsb (mac : Bool) (op : BitVec 6) (xx : Byte)
  deriving DecidableEq, Repr

end Sys2Proof
end

