-- ==== Sys2Proof/WellFormed.lean ====
section
/-! DEFINITION. Which terms of Instr are rows of the opcode table: each operand field within the row's range
(spec/opcode_table.json, R83 to R89). -/

namespace Sys2Proof

/-- The operand ranges of the opcode table. `m ≠ 127` is the direct form's m ≤ 126 (R84); the offset ranges are R86. -/
def Instr.wf : Instr → Bool
  | .nop _ => true
  | .rsv01At00 => true
  | .ldAB => true
  | .ldBA => true
  | .swap => true
  | .rsv01From04 xx => 0x04#8 ≤ xx && xx ≤ 0x1F#8
  | .ldBC => true
  | .getpc => true
  | .getmc => true
  | .rsv01At23 => true
  | .setpc => true
  | .rsv01From25 xx => 0x25#8 ≤ xx && xx ≤ 0x27#8
  | .setmc => true
  | .rsv01From29 xx => 0x29#8 ≤ xx && xx ≤ 0x2F#8
  | .usermode _ => true
  | .rsv01From32 xx => 0x32#8 ≤ xx && xx ≤ 0x3F#8
  | .offset _ => true
  | .rsv01From44 xx => 0x44#8 ≤ xx && xx ≤ 0x50#8
  | .getstat => true
  | .getver => true
  | .rsv01At53 => true
  | .getid => true
  | .rsv01From55 xx => 0x55#8 ≤ xx && xx ≤ 0x57#8
  | .cpuinfo => true
  | .rsv01From59 xx => 0x59#8 ≤ xx && xx ≤ 0x5F#8
  | .clear0 => true
  | .clear1 => true
  | .clearK k => 2#4 ≤ k
  | .rsv01From70 xx => 0x70#8 ≤ xx && xx ≤ 0xC0#8
  | .loadOpt => true
  | .saveOpt => true
  | .rsv01AtC3 => true
  | .clc => true
  | .rsv01FromC5 xx => 0xC5#8 ≤ xx && xx ≤ 0xC7#8
  | .pmemacc => true
  | .rsv01FromC9 xx => 0xC9#8 ≤ xx && xx ≤ 0xCF#8
  | .int _ => true
  | .disable => true
  | .enable => true
  | .rsv01FromE2 xx => 0xE2#8 ≤ xx && xx ≤ 0xF0#8
  | .inputa => true
  | .outputb => true
  | .inout => true
  | .rsv01FromF4 xx => 0xF4#8 ≤ xx && xx ≤ 0xFF#8
  | .ldAN _ => true
  | .ldBN _ => true
  | .ldCN _ => true
  | .setflagD m => m ≠ 127#7
  | .setflagP => true
  | .setflagX _ => true
  | .stAD m => m ≠ 127#7
  | .roopshlc => true
  | .stAX _ => true
  | .stBD m => m ≠ 127#7
  | .roopshrc => true
  | .zeroX _ => true
  | .shlD m => m ≠ 127#7
  | .shlP => true
  | .shlX _ => true
  | .shrD m => m ≠ 127#7
  | .shrP => true
  | .shrX _ => true
  | .andMemD m => m ≠ 127#7
  | .andMemP => true
  | .andMemX _ => true
  | .stCD m => m ≠ 127#7
  | .stCP => true
  | .stCX _ => true
  | .xorMemD m => m ≠ 127#7
  | .xorMemP => true
  | .xorMemX _ => true
  | .getflagD m => m ≠ 127#7
  | .getflagP => true
  | .getflagX _ => true
  | .orMemD m => m ≠ 127#7
  | .orMemP => true
  | .orMemX _ => true
  | .unused0F _ => true
  | .jmpM m => m ≤ 121#7
  | .jmpC0 => true
  | .jmpC1 => true
  | .jmpZ0 => true
  | .jmpZ1 => true
  | .rsv10At7E => true
  | .jmpP => true
  | .jmpX _ => true
  | .balM m => m ≤ 121#7
  | .balC0 => true
  | .balC1 => true
  | .balZ0 => true
  | .balZ1 => true
  | .rsv11At7E => true
  | .balP => true
  | .balX _ => true
  | .jrFwd n => n ≤ 0x7E#8
  | .unusable12 => true
  | .jrB => true
  | .jrBack n => 0x81#8 ≤ n
  | .brFwd n => n ≤ 0x7E#8
  | .unusable13 => true
  | .brB => true
  | .brBack n => 0x81#8 ≤ n
  | .jrc0Fwd n => n ≤ 0x7E#8
  | .unusable14 => true
  | .jrc0B => true
  | .jrc0Back n => 0x81#8 ≤ n
  | .brc0Fwd n => n ≤ 0x7E#8
  | .unusable15 => true
  | .brc0B => true
  | .brc0Back n => 0x81#8 ≤ n
  | .jrc1Fwd n => n ≤ 0x7E#8
  | .unusable16 => true
  | .jrc1B => true
  | .jrc1Back n => 0x81#8 ≤ n
  | .brc1Fwd n => n ≤ 0x7E#8
  | .unusable17 => true
  | .brc1B => true
  | .brc1Back n => 0x81#8 ≤ n
  | .jrz0Fwd n => n ≤ 0x7E#8
  | .unusable18 => true
  | .jrz0B => true
  | .jrz0Back n => 0x81#8 ≤ n
  | .brz0Fwd n => n ≤ 0x7E#8
  | .unusable19 => true
  | .brz0B => true
  | .brz0Back n => 0x81#8 ≤ n
  | .jrz1Fwd n => n ≤ 0x7E#8
  | .unusable1A => true
  | .jrz1B => true
  | .jrz1Back n => 0x81#8 ≤ n
  | .brz1Fwd n => n ≤ 0x7E#8
  | .unusable1B => true
  | .brz1B => true
  | .brz1Back n => 0x81#8 ≤ n
  | .unused1C _ => true
  | .inD m => m ≠ 127#7
  | .inP => true
  | .inX _ => true
  | .outD m => m ≠ 127#7
  | .outP => true
  | .outX _ => true
  | .reti m => m ≠ 127#7
  | .rsv1FAt7F => true
  | .rsv1FFrom80 _ => true
  | .incD m => m ≠ 127#7
  | .incP => true
  | .incX _ => true
  | .inccD m => m ≠ 127#7
  | .inccP => true
  | .inccX _ => true
  | .incxD m => m ≠ 127#7
  | .incxP => true
  | .incxX _ => true
  | .incxcD m => m ≠ 127#7
  | .incxcP => true
  | .incxcX _ => true
  | .addMemD m => m ≠ 127#7
  | .addMemP => true
  | .addMemX _ => true
  | .addcMemD m => m ≠ 127#7
  | .addcMemP => true
  | .addcMemX _ => true
  | .addAD m => m ≠ 127#7
  | .addAC => true
  | .addAX _ => true
  | .addcAD m => m ≠ 127#7
  | .addcAC => true
  | .addcAX _ => true
  | .shlcD m => m ≠ 127#7
  | .shlcP => true
  | .shlcX _ => true
  | .shrcD m => m ≠ 127#7
  | .shrcP => true
  | .shrcX _ => true
  | .ldAD m => m ≠ 127#7
  | .ldAP => true
  | .ldAX _ => true
  | .ldBD m => m ≠ 127#7
  | .ldBP => true
  | .ldBX _ => true
  | .ldCD m => m ≠ 127#7
  | .ldCP => true
  | .ldCX _ => true
  | .stacpD m => m ≠ 127#7
  | .stacpP => true
  | .stacpX _ => true
  | .stabD m => m ≠ 127#7
  | .stac => true
  | .stabX _ => true
  | .stabpD m => m ≠ 127#7
  | .stzcp => true
  | .stabpX _ => true
  | .decD m => m ≠ 127#7
  | .decP => true
  | .decX _ => true
  | .deccD m => m ≠ 127#7
  | .deccP => true
  | .deccX _ => true
  | .decxD m => m ≠ 127#7
  | .decxP => true
  | .decxX _ => true
  | .decxcD m => m ≠ 127#7
  | .decxcP => true
  | .decxcX _ => true
  | .subMemD m => m ≠ 127#7
  | .subMemP => true
  | .subMemX _ => true
  | .subcMemD m => m ≠ 127#7
  | .subcMemP => true
  | .subcMemX _ => true
  | .subAD m => m ≠ 127#7
  | .subAC => true
  | .subAX _ => true
  | .subcAD m => m ≠ 127#7
  | .subcAC => true
  | .subcAX _ => true
  | .loopdecWait => true
  | .loopdecFwd n => 0x01#8 ≤ n && n ≤ 0x7E#8
  | .loopshrc => true
  | .loopdecB => true
  | .loopdecBack n => 0x81#8 ≤ n
  | .loopzero => true
  | .loopincFwd n => 0x01#8 ≤ n && n ≤ 0x7E#8
  | .loopshlc => true
  | .loopincB => true
  | .loopincBack n => 0x81#8 ≤ n
  | .andAD m => m ≠ 127#7
  | .andAC => true
  | .andAX _ => true
  | .andAN _ => true
  | .xorAD m => m ≠ 127#7
  | .xorAC => true
  | .xorAX _ => true
  | .xorAN _ => true
  | .orAD m => m ≠ 127#7
  | .orAC => true
  | .orAX _ => true
  | .orAN _ => true
  | .hardMacro _ _ => true
  | .opmsb _ _ _ => true

end Sys2Proof
end

