-- ==== Sys2Proof/Decode.lean ====
section
/-! DEFINITION. The decoder, total on every word, and the encoder, both written from spec/30_encoding.md R81 to R89 and
spec/opcode_table.json. Every one of the 65536 words is a row of the table, so the decoder refuses nothing but a byte
list that is too short; a reserved row decodes to its constructor, whose meaning refuses by name. -/

namespace Sys2Proof

/-- The three address forms by the value of xx: `[m]`, xx = 127, and m = xx - 80h (R84). -/
def byForm (xx : Byte) (d : BitVec 7 → Instr) (p : Instr) (x : BitVec 7 → Instr) : Instr :=
  if xx.msb then x (xx.setWidth 7) else if xx = 0x7F#8 then p else d (xx.setWidth 7)

/-- The relative forms of OP 12 to 1B: offset n ≥ 0, unusable 7Fh, offset in B, offset n < 0 (R86). -/
def byOffset (xx : Byte) (fwd : Byte → Instr) (unusable inB : Instr) (back : Byte → Instr) : Instr :=
  if xx = 0x7F#8 then unusable else if xx = 0x80#8 then inB else if xx.msb then back xx else fwd xx

/-- The relative forms of OP 38 and 39: 00h and 7Fh select instructions of their own (R86, R280). -/
def byLoopOffset (xx : Byte) (zero : Instr) (fwd : Byte → Instr) (compound inB : Instr) (back : Byte → Instr) : Instr :=
  if xx = 0x00#8 then zero else byOffset xx fwd compound inB back

/-- The jump selector of OP 10 and 11 (R83): word address m ≤ 121, four conditional jumps, 126 reserved, `A:B`, `m:B`. -/
def decodeJump (xx : Byte) (abs : BitVec 7 → Instr) (c0 c1 z0 z1 reserved ab : Instr) (mb : BitVec 7 → Instr) : Instr :=
  if xx.msb then mb (xx.setWidth 7)
  else if xx ≤ 0x79#8 then abs (xx.setWidth 7)
  else if xx = 0x7A#8 then c0
  else if xx = 0x7B#8 then c1
  else if xx = 0x7C#8 then z0
  else if xx = 0x7D#8 then z1
  else if xx = 0x7E#8 then reserved
  else ab

/-- The sub-operations of OP 01 by the value of xx (R88, R89), in rising order of xx. -/
def decodeControl (xx : Byte) : Instr :=
  if xx = 0x00#8 then .rsv01At00
  else if xx = 0x01#8 then .ldAB
  else if xx = 0x02#8 then .ldBA
  else if xx = 0x03#8 then .swap
  else if xx ≤ 0x1F#8 then .rsv01From04 xx
  else if xx = 0x20#8 then .ldBC
  else if xx = 0x21#8 then .getpc
  else if xx = 0x22#8 then .getmc
  else if xx = 0x23#8 then .rsv01At23
  else if xx = 0x24#8 then .setpc
  else if xx ≤ 0x27#8 then .rsv01From25 xx
  else if xx = 0x28#8 then .setmc
  else if xx ≤ 0x2F#8 then .rsv01From29 xx
  else if xx ≤ 0x31#8 then .usermode (xx.setWidth 1)
  else if xx ≤ 0x3F#8 then .rsv01From32 xx
  else if xx ≤ 0x43#8 then .offset (xx.setWidth 2)
  else if xx ≤ 0x50#8 then .rsv01From44 xx
  else if xx = 0x51#8 then .getstat
  else if xx = 0x52#8 then .getver
  else if xx = 0x53#8 then .rsv01At53
  else if xx = 0x54#8 then .getid
  else if xx ≤ 0x57#8 then .rsv01From55 xx
  else if xx = 0x58#8 then .cpuinfo
  else if xx ≤ 0x5F#8 then .rsv01From59 xx
  else if xx = 0x60#8 then .clear0
  else if xx = 0x61#8 then .clear1
  else if xx ≤ 0x6F#8 then .clearK (xx.setWidth 4)
  else if xx ≤ 0xC0#8 then .rsv01From70 xx
  else if xx = 0xC1#8 then .loadOpt
  else if xx = 0xC2#8 then .saveOpt
  else if xx = 0xC3#8 then .rsv01AtC3
  else if xx = 0xC4#8 then .clc
  else if xx ≤ 0xC7#8 then .rsv01FromC5 xx
  else if xx = 0xC8#8 then .pmemacc
  else if xx ≤ 0xCF#8 then .rsv01FromC9 xx
  else if xx ≤ 0xDF#8 then .int (xx.setWidth 4)
  else if xx = 0xE0#8 then .disable
  else if xx = 0xE1#8 then .enable
  else if xx ≤ 0xF0#8 then .rsv01FromE2 xx
  else if xx = 0xF1#8 then .inputa
  else if xx = 0xF2#8 then .outputb
  else if xx = 0xF3#8 then .inout
  else .rsv01FromF4 xx

/-- The operation a word with bits 15 and 14 clear selects by its OP and xx (R82 item 3, R87). -/
def decodeOp (op : BitVec 6) (xx : Byte) : Instr :=
  match op.toNat with
  | 0x00 => .nop xx
  | 0x01 => decodeControl xx
  | 0x02 => .ldAN xx
  | 0x03 => .ldBN xx
  | 0x04 => .ldCN xx
  | 0x05 => byForm xx .setflagD .setflagP .setflagX
  | 0x06 => byForm xx .stAD .roopshlc .stAX
  | 0x07 => byForm xx .stBD .roopshrc .zeroX
  | 0x08 => byForm xx .shlD .shlP .shlX
  | 0x09 => byForm xx .shrD .shrP .shrX
  | 0x0A => byForm xx .andMemD .andMemP .andMemX
  | 0x0B => byForm xx .stCD .stCP .stCX
  | 0x0C => byForm xx .xorMemD .xorMemP .xorMemX
  | 0x0D => byForm xx .getflagD .getflagP .getflagX
  | 0x0E => byForm xx .orMemD .orMemP .orMemX
  | 0x0F => .unused0F xx
  | 0x10 => decodeJump xx .jmpM .jmpC0 .jmpC1 .jmpZ0 .jmpZ1 .rsv10At7E .jmpP .jmpX
  | 0x11 => decodeJump xx .balM .balC0 .balC1 .balZ0 .balZ1 .rsv11At7E .balP .balX
  | 0x12 => byOffset xx .jrFwd .unusable12 .jrB .jrBack
  | 0x13 => byOffset xx .brFwd .unusable13 .brB .brBack
  | 0x14 => byOffset xx .jrc0Fwd .unusable14 .jrc0B .jrc0Back
  | 0x15 => byOffset xx .brc0Fwd .unusable15 .brc0B .brc0Back
  | 0x16 => byOffset xx .jrc1Fwd .unusable16 .jrc1B .jrc1Back
  | 0x17 => byOffset xx .brc1Fwd .unusable17 .brc1B .brc1Back
  | 0x18 => byOffset xx .jrz0Fwd .unusable18 .jrz0B .jrz0Back
  | 0x19 => byOffset xx .brz0Fwd .unusable19 .brz0B .brz0Back
  | 0x1A => byOffset xx .jrz1Fwd .unusable1A .jrz1B .jrz1Back
  | 0x1B => byOffset xx .brz1Fwd .unusable1B .brz1B .brz1Back
  | 0x1C => .unused1C xx
  | 0x1D => byForm xx .inD .inP .inX
  | 0x1E => byForm xx .outD .outP .outX
  | 0x1F => byForm xx .reti .rsv1FAt7F .rsv1FFrom80
  | 0x20 => byForm xx .incD .incP .incX
  | 0x21 => byForm xx .inccD .inccP .inccX
  | 0x22 => byForm xx .incxD .incxP .incxX
  | 0x23 => byForm xx .incxcD .incxcP .incxcX
  | 0x24 => byForm xx .addMemD .addMemP .addMemX
  | 0x25 => byForm xx .addcMemD .addcMemP .addcMemX
  | 0x26 => byForm xx .addAD .addAC .addAX
  | 0x27 => byForm xx .addcAD .addcAC .addcAX
  | 0x28 => byForm xx .shlcD .shlcP .shlcX
  | 0x29 => byForm xx .shrcD .shrcP .shrcX
  | 0x2A => byForm xx .ldAD .ldAP .ldAX
  | 0x2B => byForm xx .ldBD .ldBP .ldBX
  | 0x2C => byForm xx .ldCD .ldCP .ldCX
  | 0x2D => byForm xx .stacpD .stacpP .stacpX
  | 0x2E => byForm xx .stabD .stac .stabX
  | 0x2F => byForm xx .stabpD .stzcp .stabpX
  | 0x30 => byForm xx .decD .decP .decX
  | 0x31 => byForm xx .deccD .deccP .deccX
  | 0x32 => byForm xx .decxD .decxP .decxX
  | 0x33 => byForm xx .decxcD .decxcP .decxcX
  | 0x34 => byForm xx .subMemD .subMemP .subMemX
  | 0x35 => byForm xx .subcMemD .subcMemP .subcMemX
  | 0x36 => byForm xx .subAD .subAC .subAX
  | 0x37 => byForm xx .subcAD .subcAC .subcAX
  | 0x38 => byLoopOffset xx .loopdecWait .loopdecFwd .loopshrc .loopdecB .loopdecBack
  | 0x39 => byLoopOffset xx .loopzero .loopincFwd .loopshlc .loopincB .loopincBack
  | 0x3A => byForm xx .andAD .andAC .andAX
  | 0x3B => .andAN xx
  | 0x3C => byForm xx .xorAD .xorAC .xorAX
  | 0x3D => .xorAN xx
  | 0x3E => byForm xx .orAD .orAC .orAX
  | _ => .orAN xx

/-- The decode order of R82: opmsb, then the macro bit, then OP and xx. -/
def decode (w : InstrWord) : Instr :=
  let op := w.extractLsb' 8 6
  let xx := w.extractLsb' 0 8
  if w.getLsbD 15 then .opmsb (w.getLsbD 14) op xx
  else if w.getLsbD 14 then .hardMacro op xx
  else decodeOp op xx

/-- Why a list of bytes is not decoded. -/
inductive DecodeError where
  /-- Fewer than two bytes: an instruction is 2 bytes (R80). Safe: nothing is executed. -/
  | truncated
  deriving DecidableEq, Repr

/-- The word of two bytes in storage order, operand byte first (R50, R81). -/
def wordOfBytes (lo hi : Byte) : InstrWord := hi ++ lo

/-- Decode the first instruction of a list of bytes in storage order; the rest of the list comes with it. -/
def decodeBytes : List Byte → Except DecodeError (Instr × List Byte)
  | lo :: hi :: rest => .ok (decode (wordOfBytes lo hi), rest)
  | _ => .error .truncated

/-- A word with bits 15 and 14 clear (R81). -/
def encodeOp (op : BitVec 6) (xx : Byte) : InstrWord := (0#2 ++ op) ++ xx

/-- The word of an instruction (R81), written row by row from spec/opcode_table.json. -/
def encode : Instr → InstrWord
  | .nop xx => encodeOp 0x00#6 (xx)
  | .rsv01At00 => encodeOp 0x01#6 (0x00#8)
  | .ldAB => encodeOp 0x01#6 (0x01#8)
  | .ldBA => encodeOp 0x01#6 (0x02#8)
  | .swap => encodeOp 0x01#6 (0x03#8)
  | .rsv01From04 xx => encodeOp 0x01#6 (xx)
  | .ldBC => encodeOp 0x01#6 (0x20#8)
  | .getpc => encodeOp 0x01#6 (0x21#8)
  | .getmc => encodeOp 0x01#6 (0x22#8)
  | .rsv01At23 => encodeOp 0x01#6 (0x23#8)
  | .setpc => encodeOp 0x01#6 (0x24#8)
  | .rsv01From25 xx => encodeOp 0x01#6 (xx)
  | .setmc => encodeOp 0x01#6 (0x28#8)
  | .rsv01From29 xx => encodeOp 0x01#6 (xx)
  | .usermode k => encodeOp 0x01#6 (0x30#8 + k.setWidth 8)
  | .rsv01From32 xx => encodeOp 0x01#6 (xx)
  | .offset k => encodeOp 0x01#6 (0x40#8 + k.setWidth 8)
  | .rsv01From44 xx => encodeOp 0x01#6 (xx)
  | .getstat => encodeOp 0x01#6 (0x51#8)
  | .getver => encodeOp 0x01#6 (0x52#8)
  | .rsv01At53 => encodeOp 0x01#6 (0x53#8)
  | .getid => encodeOp 0x01#6 (0x54#8)
  | .rsv01From55 xx => encodeOp 0x01#6 (xx)
  | .cpuinfo => encodeOp 0x01#6 (0x58#8)
  | .rsv01From59 xx => encodeOp 0x01#6 (xx)
  | .clear0 => encodeOp 0x01#6 (0x60#8)
  | .clear1 => encodeOp 0x01#6 (0x61#8)
  | .clearK k => encodeOp 0x01#6 (0x60#8 + k.setWidth 8)
  | .rsv01From70 xx => encodeOp 0x01#6 (xx)
  | .loadOpt => encodeOp 0x01#6 (0xC1#8)
  | .saveOpt => encodeOp 0x01#6 (0xC2#8)
  | .rsv01AtC3 => encodeOp 0x01#6 (0xC3#8)
  | .clc => encodeOp 0x01#6 (0xC4#8)
  | .rsv01FromC5 xx => encodeOp 0x01#6 (xx)
  | .pmemacc => encodeOp 0x01#6 (0xC8#8)
  | .rsv01FromC9 xx => encodeOp 0x01#6 (xx)
  | .int k => encodeOp 0x01#6 (0xD0#8 + k.setWidth 8)
  | .disable => encodeOp 0x01#6 (0xE0#8)
  | .enable => encodeOp 0x01#6 (0xE1#8)
  | .rsv01FromE2 xx => encodeOp 0x01#6 (xx)
  | .inputa => encodeOp 0x01#6 (0xF1#8)
  | .outputb => encodeOp 0x01#6 (0xF2#8)
  | .inout => encodeOp 0x01#6 (0xF3#8)
  | .rsv01FromF4 xx => encodeOp 0x01#6 (xx)
  | .ldAN n => encodeOp 0x02#6 (n)
  | .ldBN n => encodeOp 0x03#6 (n)
  | .ldCN n => encodeOp 0x04#6 (n)
  | .setflagD m => encodeOp 0x05#6 (0#1 ++ m)
  | .setflagP => encodeOp 0x05#6 (0x7F#8)
  | .setflagX m => encodeOp 0x05#6 (1#1 ++ m)
  | .stAD m => encodeOp 0x06#6 (0#1 ++ m)
  | .roopshlc => encodeOp 0x06#6 (0x7F#8)
  | .stAX m => encodeOp 0x06#6 (1#1 ++ m)
  | .stBD m => encodeOp 0x07#6 (0#1 ++ m)
  | .roopshrc => encodeOp 0x07#6 (0x7F#8)
  | .zeroX m => encodeOp 0x07#6 (1#1 ++ m)
  | .shlD m => encodeOp 0x08#6 (0#1 ++ m)
  | .shlP => encodeOp 0x08#6 (0x7F#8)
  | .shlX m => encodeOp 0x08#6 (1#1 ++ m)
  | .shrD m => encodeOp 0x09#6 (0#1 ++ m)
  | .shrP => encodeOp 0x09#6 (0x7F#8)
  | .shrX m => encodeOp 0x09#6 (1#1 ++ m)
  | .andMemD m => encodeOp 0x0A#6 (0#1 ++ m)
  | .andMemP => encodeOp 0x0A#6 (0x7F#8)
  | .andMemX m => encodeOp 0x0A#6 (1#1 ++ m)
  | .stCD m => encodeOp 0x0B#6 (0#1 ++ m)
  | .stCP => encodeOp 0x0B#6 (0x7F#8)
  | .stCX m => encodeOp 0x0B#6 (1#1 ++ m)
  | .xorMemD m => encodeOp 0x0C#6 (0#1 ++ m)
  | .xorMemP => encodeOp 0x0C#6 (0x7F#8)
  | .xorMemX m => encodeOp 0x0C#6 (1#1 ++ m)
  | .getflagD m => encodeOp 0x0D#6 (0#1 ++ m)
  | .getflagP => encodeOp 0x0D#6 (0x7F#8)
  | .getflagX m => encodeOp 0x0D#6 (1#1 ++ m)
  | .orMemD m => encodeOp 0x0E#6 (0#1 ++ m)
  | .orMemP => encodeOp 0x0E#6 (0x7F#8)
  | .orMemX m => encodeOp 0x0E#6 (1#1 ++ m)
  | .unused0F xx => encodeOp 0x0F#6 (xx)
  | .jmpM m => encodeOp 0x10#6 (0#1 ++ m)
  | .jmpC0 => encodeOp 0x10#6 (0x7A#8)
  | .jmpC1 => encodeOp 0x10#6 (0x7B#8)
  | .jmpZ0 => encodeOp 0x10#6 (0x7C#8)
  | .jmpZ1 => encodeOp 0x10#6 (0x7D#8)
  | .rsv10At7E => encodeOp 0x10#6 (0x7E#8)
  | .jmpP => encodeOp 0x10#6 (0x7F#8)
  | .jmpX m => encodeOp 0x10#6 (1#1 ++ m)
  | .balM m => encodeOp 0x11#6 (0#1 ++ m)
  | .balC0 => encodeOp 0x11#6 (0x7A#8)
  | .balC1 => encodeOp 0x11#6 (0x7B#8)
  | .balZ0 => encodeOp 0x11#6 (0x7C#8)
  | .balZ1 => encodeOp 0x11#6 (0x7D#8)
  | .rsv11At7E => encodeOp 0x11#6 (0x7E#8)
  | .balP => encodeOp 0x11#6 (0x7F#8)
  | .balX m => encodeOp 0x11#6 (1#1 ++ m)
  | .jrFwd n => encodeOp 0x12#6 (n)
  | .unusable12 => encodeOp 0x12#6 (0x7F#8)
  | .jrB => encodeOp 0x12#6 (0x80#8)
  | .jrBack n => encodeOp 0x12#6 (n)
  | .brFwd n => encodeOp 0x13#6 (n)
  | .unusable13 => encodeOp 0x13#6 (0x7F#8)
  | .brB => encodeOp 0x13#6 (0x80#8)
  | .brBack n => encodeOp 0x13#6 (n)
  | .jrc0Fwd n => encodeOp 0x14#6 (n)
  | .unusable14 => encodeOp 0x14#6 (0x7F#8)
  | .jrc0B => encodeOp 0x14#6 (0x80#8)
  | .jrc0Back n => encodeOp 0x14#6 (n)
  | .brc0Fwd n => encodeOp 0x15#6 (n)
  | .unusable15 => encodeOp 0x15#6 (0x7F#8)
  | .brc0B => encodeOp 0x15#6 (0x80#8)
  | .brc0Back n => encodeOp 0x15#6 (n)
  | .jrc1Fwd n => encodeOp 0x16#6 (n)
  | .unusable16 => encodeOp 0x16#6 (0x7F#8)
  | .jrc1B => encodeOp 0x16#6 (0x80#8)
  | .jrc1Back n => encodeOp 0x16#6 (n)
  | .brc1Fwd n => encodeOp 0x17#6 (n)
  | .unusable17 => encodeOp 0x17#6 (0x7F#8)
  | .brc1B => encodeOp 0x17#6 (0x80#8)
  | .brc1Back n => encodeOp 0x17#6 (n)
  | .jrz0Fwd n => encodeOp 0x18#6 (n)
  | .unusable18 => encodeOp 0x18#6 (0x7F#8)
  | .jrz0B => encodeOp 0x18#6 (0x80#8)
  | .jrz0Back n => encodeOp 0x18#6 (n)
  | .brz0Fwd n => encodeOp 0x19#6 (n)
  | .unusable19 => encodeOp 0x19#6 (0x7F#8)
  | .brz0B => encodeOp 0x19#6 (0x80#8)
  | .brz0Back n => encodeOp 0x19#6 (n)
  | .jrz1Fwd n => encodeOp 0x1A#6 (n)
  | .unusable1A => encodeOp 0x1A#6 (0x7F#8)
  | .jrz1B => encodeOp 0x1A#6 (0x80#8)
  | .jrz1Back n => encodeOp 0x1A#6 (n)
  | .brz1Fwd n => encodeOp 0x1B#6 (n)
  | .unusable1B => encodeOp 0x1B#6 (0x7F#8)
  | .brz1B => encodeOp 0x1B#6 (0x80#8)
  | .brz1Back n => encodeOp 0x1B#6 (n)
  | .unused1C xx => encodeOp 0x1C#6 (xx)
  | .inD m => encodeOp 0x1D#6 (0#1 ++ m)
  | .inP => encodeOp 0x1D#6 (0x7F#8)
  | .inX m => encodeOp 0x1D#6 (1#1 ++ m)
  | .outD m => encodeOp 0x1E#6 (0#1 ++ m)
  | .outP => encodeOp 0x1E#6 (0x7F#8)
  | .outX m => encodeOp 0x1E#6 (1#1 ++ m)
  | .reti m => encodeOp 0x1F#6 (0#1 ++ m)
  | .rsv1FAt7F => encodeOp 0x1F#6 (0x7F#8)
  | .rsv1FFrom80 m => encodeOp 0x1F#6 (1#1 ++ m)
  | .incD m => encodeOp 0x20#6 (0#1 ++ m)
  | .incP => encodeOp 0x20#6 (0x7F#8)
  | .incX m => encodeOp 0x20#6 (1#1 ++ m)
  | .inccD m => encodeOp 0x21#6 (0#1 ++ m)
  | .inccP => encodeOp 0x21#6 (0x7F#8)
  | .inccX m => encodeOp 0x21#6 (1#1 ++ m)
  | .incxD m => encodeOp 0x22#6 (0#1 ++ m)
  | .incxP => encodeOp 0x22#6 (0x7F#8)
  | .incxX m => encodeOp 0x22#6 (1#1 ++ m)
  | .incxcD m => encodeOp 0x23#6 (0#1 ++ m)
  | .incxcP => encodeOp 0x23#6 (0x7F#8)
  | .incxcX m => encodeOp 0x23#6 (1#1 ++ m)
  | .addMemD m => encodeOp 0x24#6 (0#1 ++ m)
  | .addMemP => encodeOp 0x24#6 (0x7F#8)
  | .addMemX m => encodeOp 0x24#6 (1#1 ++ m)
  | .addcMemD m => encodeOp 0x25#6 (0#1 ++ m)
  | .addcMemP => encodeOp 0x25#6 (0x7F#8)
  | .addcMemX m => encodeOp 0x25#6 (1#1 ++ m)
  | .addAD m => encodeOp 0x26#6 (0#1 ++ m)
  | .addAC => encodeOp 0x26#6 (0x7F#8)
  | .addAX m => encodeOp 0x26#6 (1#1 ++ m)
  | .addcAD m => encodeOp 0x27#6 (0#1 ++ m)
  | .addcAC => encodeOp 0x27#6 (0x7F#8)
  | .addcAX m => encodeOp 0x27#6 (1#1 ++ m)
  | .shlcD m => encodeOp 0x28#6 (0#1 ++ m)
  | .shlcP => encodeOp 0x28#6 (0x7F#8)
  | .shlcX m => encodeOp 0x28#6 (1#1 ++ m)
  | .shrcD m => encodeOp 0x29#6 (0#1 ++ m)
  | .shrcP => encodeOp 0x29#6 (0x7F#8)
  | .shrcX m => encodeOp 0x29#6 (1#1 ++ m)
  | .ldAD m => encodeOp 0x2A#6 (0#1 ++ m)
  | .ldAP => encodeOp 0x2A#6 (0x7F#8)
  | .ldAX m => encodeOp 0x2A#6 (1#1 ++ m)
  | .ldBD m => encodeOp 0x2B#6 (0#1 ++ m)
  | .ldBP => encodeOp 0x2B#6 (0x7F#8)
  | .ldBX m => encodeOp 0x2B#6 (1#1 ++ m)
  | .ldCD m => encodeOp 0x2C#6 (0#1 ++ m)
  | .ldCP => encodeOp 0x2C#6 (0x7F#8)
  | .ldCX m => encodeOp 0x2C#6 (1#1 ++ m)
  | .stacpD m => encodeOp 0x2D#6 (0#1 ++ m)
  | .stacpP => encodeOp 0x2D#6 (0x7F#8)
  | .stacpX m => encodeOp 0x2D#6 (1#1 ++ m)
  | .stabD m => encodeOp 0x2E#6 (0#1 ++ m)
  | .stac => encodeOp 0x2E#6 (0x7F#8)
  | .stabX m => encodeOp 0x2E#6 (1#1 ++ m)
  | .stabpD m => encodeOp 0x2F#6 (0#1 ++ m)
  | .stzcp => encodeOp 0x2F#6 (0x7F#8)
  | .stabpX m => encodeOp 0x2F#6 (1#1 ++ m)
  | .decD m => encodeOp 0x30#6 (0#1 ++ m)
  | .decP => encodeOp 0x30#6 (0x7F#8)
  | .decX m => encodeOp 0x30#6 (1#1 ++ m)
  | .deccD m => encodeOp 0x31#6 (0#1 ++ m)
  | .deccP => encodeOp 0x31#6 (0x7F#8)
  | .deccX m => encodeOp 0x31#6 (1#1 ++ m)
  | .decxD m => encodeOp 0x32#6 (0#1 ++ m)
  | .decxP => encodeOp 0x32#6 (0x7F#8)
  | .decxX m => encodeOp 0x32#6 (1#1 ++ m)
  | .decxcD m => encodeOp 0x33#6 (0#1 ++ m)
  | .decxcP => encodeOp 0x33#6 (0x7F#8)
  | .decxcX m => encodeOp 0x33#6 (1#1 ++ m)
  | .subMemD m => encodeOp 0x34#6 (0#1 ++ m)
  | .subMemP => encodeOp 0x34#6 (0x7F#8)
  | .subMemX m => encodeOp 0x34#6 (1#1 ++ m)
  | .subcMemD m => encodeOp 0x35#6 (0#1 ++ m)
  | .subcMemP => encodeOp 0x35#6 (0x7F#8)
  | .subcMemX m => encodeOp 0x35#6 (1#1 ++ m)
  | .subAD m => encodeOp 0x36#6 (0#1 ++ m)
  | .subAC => encodeOp 0x36#6 (0x7F#8)
  | .subAX m => encodeOp 0x36#6 (1#1 ++ m)
  | .subcAD m => encodeOp 0x37#6 (0#1 ++ m)
  | .subcAC => encodeOp 0x37#6 (0x7F#8)
  | .subcAX m => encodeOp 0x37#6 (1#1 ++ m)
  | .loopdecWait => encodeOp 0x38#6 (0x00#8)
  | .loopdecFwd n => encodeOp 0x38#6 (n)
  | .loopshrc => encodeOp 0x38#6 (0x7F#8)
  | .loopdecB => encodeOp 0x38#6 (0x80#8)
  | .loopdecBack n => encodeOp 0x38#6 (n)
  | .loopzero => encodeOp 0x39#6 (0x00#8)
  | .loopincFwd n => encodeOp 0x39#6 (n)
  | .loopshlc => encodeOp 0x39#6 (0x7F#8)
  | .loopincB => encodeOp 0x39#6 (0x80#8)
  | .loopincBack n => encodeOp 0x39#6 (n)
  | .andAD m => encodeOp 0x3A#6 (0#1 ++ m)
  | .andAC => encodeOp 0x3A#6 (0x7F#8)
  | .andAX m => encodeOp 0x3A#6 (1#1 ++ m)
  | .andAN n => encodeOp 0x3B#6 (n)
  | .xorAD m => encodeOp 0x3C#6 (0#1 ++ m)
  | .xorAC => encodeOp 0x3C#6 (0x7F#8)
  | .xorAX m => encodeOp 0x3C#6 (1#1 ++ m)
  | .xorAN n => encodeOp 0x3D#6 (n)
  | .orAD m => encodeOp 0x3E#6 (0#1 ++ m)
  | .orAC => encodeOp 0x3E#6 (0x7F#8)
  | .orAX m => encodeOp 0x3E#6 (1#1 ++ m)
  | .orAN n => encodeOp 0x3F#6 (n)
  | .hardMacro op xx => (1#2 ++ op) ++ xx
  | .opmsb mac op xx => (1#1 ++ BitVec.ofBool mac ++ op) ++ xx

/-- The two bytes of an instruction in storage order (R50). -/
def encodeBytes (i : Instr) : List Byte := [(encode i).extractLsb' 0 8, (encode i).extractLsb' 8 8]

/-- The bytes, in storage order, of an instruction whose bits are `w` as the opcode table numbers them: one word, bit 0
its least significant bit, operand byte first (R50, R81); bits at and above `nbits` are 0. -/
def tableBytes (nbits w : Nat) : List Byte :=
  let v := BitVec.ofNat 16 (w % 2 ^ nbits)
  [v.extractLsb' 0 8, v.extractLsb' 8 8]

/-- The instruction the decoder reads from an opcode-table word. -/
def decodeTableWord (nbits w : Nat) : Option Instr :=
  match decodeBytes (tableBytes nbits w) with
  | .ok (i, _) => some i
  | .error _ => none

end Sys2Proof
end

