-- ==== Sys2Proof/Machine/ImmFlagStore.lean ====
section
/-! DEFINITION. Immediate loads, flag register transfer and stores, OP 02 to 07, 0B and 0D (spec/41_imm_flags_store.md R141 to R150). -/

namespace Sys2Proof.Machine

/-- LD A,n: no memory access whatever n is (R141). -/
def execLdAN (n : Byte) (s : State) : Host.Outcome State Fault Refusal :=
  finish { s with a := n }

/-- LD B,n: no memory access whatever n is (R142). -/
def execLdBN (n : Byte) (s : State) : Host.Outcome State Fault Refusal :=
  finish { s with b := n }

/-- LD C,n: no memory access whatever n is (R144). -/
def execLdCN (n : Byte) (s : State) : Host.Outcome State Fault Refusal :=
  finish { s with c := n }

/-- SETFLAG through an operand: refused where bit 1 of the byte is not MF, else the flags but MF are loaded (R143). -/
def setflag (s : State) (o : Operand) : Host.Outcome State Fault Refusal :=
  (s.dread o).andThen fun v t =>
    if v.getLsbD 1 = s.mf then finish (t.loadFlags v) else .refused .setflagChangesMf

/-- SETFLAG [m] (R143). -/
def execSetflagD (m : BitVec 7) (s : State) : Host.Outcome State Fault Refusal :=
  setflag s (.direct m)

/-- SETFLAG [A:B] (R143). -/
def execSetflagP (s : State) : Host.Outcome State Fault Refusal :=
  setflag s .pointer

/-- SETFLAG [m:B] (R143). -/
def execSetflagX (m : BitVec 7) (s : State) : Host.Outcome State Fault Refusal :=
  setflag s (.indexed m)

/-- GETFLAG [m] (R150): the stored OF, not effOF. -/
def execGetflagD (m : BitVec 7) (s : State) : Host.Outcome State Fault Refusal :=
  store s (.direct m) s.flagByte

/-- GETFLAG [A:B] (R150): the stored OF, not effOF. -/
def execGetflagP (s : State) : Host.Outcome State Fault Refusal :=
  store s .pointer s.flagByte

/-- GETFLAG [m:B] (R150): the stored OF, not effOF. -/
def execGetflagX (m : BitVec 7) (s : State) : Host.Outcome State Fault Refusal :=
  store s (.indexed m) s.flagByte

/-- ST [m],A (R145). -/
def execStAD (m : BitVec 7) (s : State) : Host.Outcome State Fault Refusal :=
  store s (.direct m) s.a

/-- ST [m:B],A (R145). -/
def execStAX (m : BitVec 7) (s : State) : Host.Outcome State Fault Refusal :=
  store s (.indexed m) s.a

/-- ST [m],B (R146). -/
def execStBD (m : BitVec 7) (s : State) : Host.Outcome State Fault Refusal :=
  store s (.direct m) s.b

/-- ZERO [m]: the address is m:B (R148, conflict C3). -/
def execZeroX (m : BitVec 7) (s : State) : Host.Outcome State Fault Refusal :=
  store s (.indexed m) 0#8

/-- ST [m] (R149), the byte stored is C. -/
def execStCD (m : BitVec 7) (s : State) : Host.Outcome State Fault Refusal :=
  store s (.direct m) s.c

/-- ST [A:B] (R149), the byte stored is C. -/
def execStCP (s : State) : Host.Outcome State Fault Refusal :=
  store s .pointer s.c

/-- ST [m:B] (R149), the byte stored is C. -/
def execStCX (m : BitVec 7) (s : State) : Host.Outcome State Fault Refusal :=
  store s (.indexed m) s.c

end Sys2Proof.Machine
end

