-- ==== Sys2Proof/Machine/LoadCopy.lean ====
section
/-! DEFINITION. Loads and memory-to-memory copies, OP 2A to 2F (spec/46_load_copy.md R260 to R267). No flag is written. -/

namespace Sys2Proof.Machine

/-- LD A, [m] (R260). -/
def execLdAD (m : BitVec 7) (s : State) : Host.Outcome State Fault Refusal :=
  load s (.direct m) fun v t => { t with a := v }

/-- LD A, [A:B] (R260). -/
def execLdAP (s : State) : Host.Outcome State Fault Refusal :=
  load s .pointer fun v t => { t with a := v }

/-- LD A, [m:B] (R260). -/
def execLdAX (m : BitVec 7) (s : State) : Host.Outcome State Fault Refusal :=
  load s (.indexed m) fun v t => { t with a := v }

/-- LD B, [m] (R261). -/
def execLdBD (m : BitVec 7) (s : State) : Host.Outcome State Fault Refusal :=
  load s (.direct m) fun v t => { t with b := v }

/-- LD B, [A:B] (R261). -/
def execLdBP (s : State) : Host.Outcome State Fault Refusal :=
  load s .pointer fun v t => { t with b := v }

/-- LD B, [m:B] (R261). -/
def execLdBX (m : BitVec 7) (s : State) : Host.Outcome State Fault Refusal :=
  load s (.indexed m) fun v t => { t with b := v }

/-- LD C, [m] (R262). -/
def execLdCD (m : BitVec 7) (s : State) : Host.Outcome State Fault Refusal :=
  load s (.direct m) fun v t => { t with c := v }

/-- LD C, [A:B] (R262). -/
def execLdCP (s : State) : Host.Outcome State Fault Refusal :=
  load s .pointer fun v t => { t with c := v }

/-- LD C, [m:B] (R262). -/
def execLdCX (m : BitVec 7) (s : State) : Host.Outcome State Fault Refusal :=
  load s (.indexed m) fun v t => { t with c := v }

/-- STACP [m] (R263): to `[A:C]`, B + 1, C + 1. -/
def execStacpD (m : BitVec 7) (s : State) : Host.Outcome State Fault Refusal :=
  copy s (.direct m) .pageC fun t => { t with b := s.b + 1#8, c := s.c + 1#8 }

/-- STACP [A:B] (R263): to `[A:C]`, B + 1, C + 1. -/
def execStacpP (s : State) : Host.Outcome State Fault Refusal :=
  copy s .pointer .pageC fun t => { t with b := s.b + 1#8, c := s.c + 1#8 }

/-- STACP [m:B] (R263): to `[A:C]`, B + 1, C + 1. -/
def execStacpX (m : BitVec 7) (s : State) : Host.Outcome State Fault Refusal :=
  copy s (.indexed m) .pageC fun t => { t with b := s.b + 1#8, c := s.c + 1#8 }

/-- STAB [m]: to `[A:B]` (R264). -/
def execStabD (m : BitVec 7) (s : State) : Host.Outcome State Fault Refusal :=
  copy s (.direct m) .pointer id

/-- STAB [m:B]: to `[A:B]` (R264). -/
def execStabX (m : BitVec 7) (s : State) : Host.Outcome State Fault Refusal :=
  copy s (.indexed m) .pointer id

/-- STAC [A:B]: to `[A:C]` (R265). -/
def execStac (s : State) : Host.Outcome State Fault Refusal :=
  copy s .pointer .pageC id

/-- STABP [m]: to `[A:B]`, B + 1 (R266). -/
def execStabpD (m : BitVec 7) (s : State) : Host.Outcome State Fault Refusal :=
  copy s (.direct m) .pointer fun t => { t with b := s.b + 1#8 }

/-- STABP [m:B]: to `[A:B]`, B + 1 (R266). -/
def execStabpX (m : BitVec 7) (s : State) : Host.Outcome State Fault Refusal :=
  copy s (.indexed m) .pointer fun t => { t with b := s.b + 1#8 }

/-- STZCP [A:B]: to `[C]`, B + 1, C + 1 (R267). -/
def execStzcp (s : State) : Host.Outcome State Fault Refusal :=
  copy s .pointer .zeroC fun t => { t with b := s.b + 1#8, c := s.c + 1#8 }

end Sys2Proof.Machine
end

