-- ==== Sys2Proof/Machine/LogicA.lean ====
section
/-! DEFINITION. Logic on A, OP 3A to 3F (spec/48_logic_a.md R290 to R296): ZF of the result, CF untouched. -/

namespace Sys2Proof.Machine

/-- A logical operation of A with a memory operand (R290). -/
def logicA (s : State) (o : Operand) (f : Byte → Byte → Byte) : Host.Outcome State Fault Refusal :=
  load s o fun v t => { t.setZ (f s.a v) with a := f s.a v }

/-- A logical operation of A with a register or an immediate, no memory access (R290). -/
def logicAV (s : State) (v : Byte) (f : Byte → Byte → Byte) : Host.Outcome State Fault Refusal :=
  finish { s.setZ (f s.a v) with a := f s.a v }

/-- AND A,[m] (R291). -/
def execAndAD (m : BitVec 7) (s : State) : Host.Outcome State Fault Refusal :=
  logicA s (.direct m) (· &&& ·)

/-- AND A,C (R291). -/
def execAndAC (s : State) : Host.Outcome State Fault Refusal :=
  logicAV s s.c (· &&& ·)

/-- AND A,[m:B] (R291). -/
def execAndAX (m : BitVec 7) (s : State) : Host.Outcome State Fault Refusal :=
  logicA s (.indexed m) (· &&& ·)

/-- AND A,n (R292). -/
def execAndAN (n : Byte) (s : State) : Host.Outcome State Fault Refusal :=
  logicAV s n (· &&& ·)

/-- XOR A,[m] (R293). -/
def execXorAD (m : BitVec 7) (s : State) : Host.Outcome State Fault Refusal :=
  logicA s (.direct m) (· ^^^ ·)

/-- XOR A,C (R293). -/
def execXorAC (s : State) : Host.Outcome State Fault Refusal :=
  logicAV s s.c (· ^^^ ·)

/-- XOR A,[m:B] (R293). -/
def execXorAX (m : BitVec 7) (s : State) : Host.Outcome State Fault Refusal :=
  logicA s (.indexed m) (· ^^^ ·)

/-- XOR A,n (R294). -/
def execXorAN (n : Byte) (s : State) : Host.Outcome State Fault Refusal :=
  logicAV s n (· ^^^ ·)

/-- OR A,[m] (R295). -/
def execOrAD (m : BitVec 7) (s : State) : Host.Outcome State Fault Refusal :=
  logicA s (.direct m) (· ||| ·)

/-- OR A,C (R295). -/
def execOrAC (s : State) : Host.Outcome State Fault Refusal :=
  logicAV s s.c (· ||| ·)

/-- OR A,[m:B] (R295). -/
def execOrAX (m : BitVec 7) (s : State) : Host.Outcome State Fault Refusal :=
  logicA s (.indexed m) (· ||| ·)

/-- OR A,n (R296). -/
def execOrAN (n : Byte) (s : State) : Host.Outcome State Fault Refusal :=
  logicAV s n (· ||| ·)

end Sys2Proof.Machine
end

