-- ==== Sys2Proof/Machine/Loop.lean ====
section
/-! DEFINITION. Loop and compound loop instructions, OP 38 and 39 (spec/47_loop.md R280 to R288). With C = 0 an instruction falls
through unchanged; else it does its work, counts C down, steps B and branches. -/

namespace Sys2Proof.Machine

/-- The plain forms: while C ≠ 0, branch to `t`, C - 1, B + `step` (R280). -/
def loopTo (s : State) (t : Counter) (step : Byte) : Host.Outcome State Fault Refusal :=
  if s.c = 0#8 then finish s
  else finish (State.setCnt { s with c := s.c - 1#8, b := s.b + step } t)

/-- The compound shifts: one shift of `[A:B]` while C ≠ 0, then repeat this instruction (R284, R286). -/
def loopShift (s : State) (f : Byte → Byte × Bool) (step : Byte) : Host.Outcome State Fault Refusal :=
  if s.c = 0#8 then finish s
  else modify s .pointer f fun _ r t =>
    State.setCnt { t with cf := r.2, c := s.c - 1#8, b := s.b + step } s.thisAddr

/-- A loop through an offset in B, on the cores that have it (R283, R288). -/
def loopB (s : State) (step : Byte) : Host.Outcome State Fault Refusal :=
  if s.cfg.loopB then loopTo s (s.relTarget s.b) step else .refused .loopBAbsent

/-- LOOPDEC 0 (WAIT): repeats itself (R282). -/
def execLoopdecWait (s : State) : Host.Outcome State Fault Refusal :=
  loopTo s s.thisAddr (-1#8)

/-- LOOPDEC n, n ≥ 1 (R281). -/
def execLoopdecFwd (n : Byte) (s : State) : Host.Outcome State Fault Refusal :=
  loopTo s (s.relTarget n) (-1#8)

/-- LOOPSHRC (R284). -/
def execLoopshrc (s : State) : Host.Outcome State Fault Refusal :=
  loopShift s (shrc8 · s.cf) (-1#8)

/-- LOOPDEC B (R283). -/
def execLoopdecB (s : State) : Host.Outcome State Fault Refusal :=
  loopB s (-1#8)

/-- LOOPDEC n, n < 0 (R281). -/
def execLoopdecBack (n : Byte) (s : State) : Host.Outcome State Fault Refusal :=
  loopTo s (s.relTarget n) (-1#8)

/-- LOOPZERO: clear `[A:B]` while C ≠ 0, then repeat this instruction (R287). -/
def execLoopzero (s : State) : Host.Outcome State Fault Refusal :=
  if s.c = 0#8 then finish s
  else (s.dwrite .pointer 0#8).andThen fun _ t =>
    finish (State.setCnt { t with c := s.c - 1#8, b := s.b + 1#8 } s.thisAddr)

/-- LOOPINC n, n ≥ 1 (R285). -/
def execLoopincFwd (n : Byte) (s : State) : Host.Outcome State Fault Refusal :=
  loopTo s (s.relTarget n) 1#8

/-- LOOPSHLC (R286). -/
def execLoopshlc (s : State) : Host.Outcome State Fault Refusal :=
  loopShift s (shlc8 · s.cf) 1#8

/-- LOOPINC B (R288). -/
def execLoopincB (s : State) : Host.Outcome State Fault Refusal :=
  loopB s 1#8

/-- LOOPINC n, n < 0 (R285). -/
def execLoopincBack (n : Byte) (s : State) : Host.Outcome State Fault Refusal :=
  loopTo s (s.relTarget n) 1#8

end Sys2Proof.Machine
end

