-- ==== Sys2Proof/Machine/PortReti.lean ====
section
/-! DEFINITION. Port I/O to memory and return from interrupt, OP 1D, 1E and 1F (spec/44_io_reti.md R210 to R212). -/

namespace Sys2Proof.Machine

/-- IN: the port is read, an event, and the byte is written through the operand, suppressed or not (R210). -/
def inTo (s : State) (o : Operand) : Host.Outcome State Fault Refusal :=
  store (s.portIn s.c).2 o (s.portIn s.c).1

/-- OUT: the byte of the operand to port C (R211). -/
def outFrom (s : State) (o : Operand) : Host.Outcome State Fault Refusal :=
  load s o fun v t => t.portOut s.c v

/-- IN [m] (R210). -/
def execInD (m : BitVec 7) (s : State) : Host.Outcome State Fault Refusal :=
  inTo s (.direct m)

/-- IN [A:B] (R210). -/
def execInP (s : State) : Host.Outcome State Fault Refusal :=
  inTo s .pointer

/-- IN [m:B] (R210). -/
def execInX (m : BitVec 7) (s : State) : Host.Outcome State Fault Refusal :=
  inTo s (.indexed m)

/-- OUT [m] (R211). -/
def execOutD (m : BitVec 7) (s : State) : Host.Outcome State Fault Refusal :=
  outFrom s (.direct m)

/-- OUT [A:B] (R211). -/
def execOutP (s : State) : Host.Outcome State Fault Refusal :=
  outFrom s .pointer

/-- OUT [m:B] (R211). -/
def execOutX (m : BitVec 7) (s : State) : Host.Outcome State Fault Refusal :=
  outFrom s (.indexed m)

/-- RETI [m]: the whole flag register with MF from data address m, then IF <- 0; refused while IF = 0 (R212, R322). -/
def execReti (m : BitVec 7) (s : State) : Host.Outcome State Fault Refusal :=
  if s.inInt then load s (.direct m) fun v t => (t.loadAllFlags v).leaveInterrupt
  else .refused .retiOutsideInterrupt

end Sys2Proof.Machine
end

