-- ==== Sys2Proof/Machine/Reserved.lean ====
section
/-! DEFINITION. The encodings the spec leaves without meaning (spec/30_encoding.md R89, R90): each is refused under its own reason. -/

namespace Sys2Proof.Machine

/-- OP 01, xx 00h: reserved (R89). -/
def execRsv01At00 (_s : State) : Host.Outcome State Fault Refusal :=
  .refused (.reservedEncoding 0x01#6 0x00#8)

/-- OP 01, xx 04h to 1Fh: reserved (R89). -/
def execRsv01From04 (xx : Byte) (_s : State) : Host.Outcome State Fault Refusal :=
  .refused (.reservedEncoding 0x01#6 xx)

/-- OP 01, xx 23h: reserved (R89). -/
def execRsv01At23 (_s : State) : Host.Outcome State Fault Refusal :=
  .refused (.reservedEncoding 0x01#6 0x23#8)

/-- OP 01, xx 25h to 27h: reserved (R89). -/
def execRsv01From25 (xx : Byte) (_s : State) : Host.Outcome State Fault Refusal :=
  .refused (.reservedEncoding 0x01#6 xx)

/-- OP 01, xx 29h to 2Fh: reserved (R89). -/
def execRsv01From29 (xx : Byte) (_s : State) : Host.Outcome State Fault Refusal :=
  .refused (.reservedEncoding 0x01#6 xx)

/-- OP 01, xx 32h to 3Fh: reserved (R89). -/
def execRsv01From32 (xx : Byte) (_s : State) : Host.Outcome State Fault Refusal :=
  .refused (.reservedEncoding 0x01#6 xx)

/-- OP 01, xx 44h to 50h: reserved (R89). -/
def execRsv01From44 (xx : Byte) (_s : State) : Host.Outcome State Fault Refusal :=
  .refused (.reservedEncoding 0x01#6 xx)

/-- OP 01, xx 53h: reserved (R89). -/
def execRsv01At53 (_s : State) : Host.Outcome State Fault Refusal :=
  .refused (.reservedEncoding 0x01#6 0x53#8)

/-- OP 01, xx 55h to 57h: reserved (R89). -/
def execRsv01From55 (xx : Byte) (_s : State) : Host.Outcome State Fault Refusal :=
  .refused (.reservedEncoding 0x01#6 xx)

/-- OP 01, xx 59h to 5Fh: reserved (R89). -/
def execRsv01From59 (xx : Byte) (_s : State) : Host.Outcome State Fault Refusal :=
  .refused (.reservedEncoding 0x01#6 xx)

/-- CLEAR 0: reserved (R116). -/
def execClear0 (_s : State) : Host.Outcome State Fault Refusal :=
  .refused (.clearCauseUndefined 0#4)

/-- CLEAR k, k = 2 to 15: reserved (R116). -/
def execClearK (k : BitVec 4) (_s : State) : Host.Outcome State Fault Refusal :=
  .refused (.clearCauseUndefined k)

/-- OP 01, xx 70h to C0h: reserved (R89). -/
def execRsv01From70 (xx : Byte) (_s : State) : Host.Outcome State Fault Refusal :=
  .refused (.reservedEncoding 0x01#6 xx)

/-- (LOAD): optional, undescribed (R118). -/
def execLoadOpt (_s : State) : Host.Outcome State Fault Refusal :=
  .refused (.optionUndescribed 0xC1#8)

/-- (SAVE): optional, undescribed (R118). -/
def execSaveOpt (_s : State) : Host.Outcome State Fault Refusal :=
  .refused (.optionUndescribed 0xC2#8)

/-- OP 01, xx C3h: reserved (R89). -/
def execRsv01AtC3 (_s : State) : Host.Outcome State Fault Refusal :=
  .refused (.reservedEncoding 0x01#6 0xC3#8)

/-- OP 01, xx C5h to C7h: reserved (R89). -/
def execRsv01FromC5 (xx : Byte) (_s : State) : Host.Outcome State Fault Refusal :=
  .refused (.reservedEncoding 0x01#6 xx)

/-- OP 01, xx C9h to CFh: reserved (R89). -/
def execRsv01FromC9 (xx : Byte) (_s : State) : Host.Outcome State Fault Refusal :=
  .refused (.reservedEncoding 0x01#6 xx)

/-- OP 01, xx E2h to F0h: reserved (R89). -/
def execRsv01FromE2 (xx : Byte) (_s : State) : Host.Outcome State Fault Refusal :=
  .refused (.reservedEncoding 0x01#6 xx)

/-- OP 01, xx F4h to FFh: reserved (R89). -/
def execRsv01FromF4 (xx : Byte) (_s : State) : Host.Outcome State Fault Refusal :=
  .refused (.reservedEncoding 0x01#6 xx)

/-- ROOPSHLC: undecided, reserved (R147). -/
def execRoopshlc (_s : State) : Host.Outcome State Fault Refusal :=
  .refused (.undecidedInstruction 0x06#6)

/-- ROOPSHRC: undecided, reserved (R147). -/
def execRoopshrc (_s : State) : Host.Outcome State Fault Refusal :=
  .refused (.undecidedInstruction 0x07#6)

/-- OP 0F: unused (R89). -/
def execUnused0F (_xx : Byte) (_s : State) : Host.Outcome State Fault Refusal :=
  .refused (.unusedOpcode 0x0F#6)

/-- OP 10, xx 7Eh: reserved (R89). -/
def execRsv10At7E (_s : State) : Host.Outcome State Fault Refusal :=
  .refused (.reservedEncoding 0x10#6 0x7E#8)

/-- OP 11, xx 7Eh: reserved (R89). -/
def execRsv11At7E (_s : State) : Host.Outcome State Fault Refusal :=
  .refused (.reservedEncoding 0x11#6 0x7E#8)

/-- OP 12, xx 7Fh: not usable (R190). -/
def execUnusable12 (_s : State) : Host.Outcome State Fault Refusal :=
  .refused (.unusableOffset 0x12#6)

/-- OP 13, xx 7Fh: not usable (R190). -/
def execUnusable13 (_s : State) : Host.Outcome State Fault Refusal :=
  .refused (.unusableOffset 0x13#6)

/-- OP 14, xx 7Fh: not usable (R190). -/
def execUnusable14 (_s : State) : Host.Outcome State Fault Refusal :=
  .refused (.unusableOffset 0x14#6)

/-- OP 15, xx 7Fh: not usable (R190). -/
def execUnusable15 (_s : State) : Host.Outcome State Fault Refusal :=
  .refused (.unusableOffset 0x15#6)

/-- OP 16, xx 7Fh: not usable (R190). -/
def execUnusable16 (_s : State) : Host.Outcome State Fault Refusal :=
  .refused (.unusableOffset 0x16#6)

/-- OP 17, xx 7Fh: not usable (R190). -/
def execUnusable17 (_s : State) : Host.Outcome State Fault Refusal :=
  .refused (.unusableOffset 0x17#6)

/-- OP 18, xx 7Fh: not usable (R190). -/
def execUnusable18 (_s : State) : Host.Outcome State Fault Refusal :=
  .refused (.unusableOffset 0x18#6)

/-- OP 19, xx 7Fh: not usable (R190). -/
def execUnusable19 (_s : State) : Host.Outcome State Fault Refusal :=
  .refused (.unusableOffset 0x19#6)

/-- OP 1A, xx 7Fh: not usable (R190). -/
def execUnusable1A (_s : State) : Host.Outcome State Fault Refusal :=
  .refused (.unusableOffset 0x1A#6)

/-- OP 1B, xx 7Fh: not usable (R190). -/
def execUnusable1B (_s : State) : Host.Outcome State Fault Refusal :=
  .refused (.unusableOffset 0x1B#6)

/-- OP 1C: unused (R89). -/
def execUnused1C (_xx : Byte) (_s : State) : Host.Outcome State Fault Refusal :=
  .refused (.unusedOpcode 0x1C#6)

/-- OP 1F, xx 7Fh: reserved (R212). -/
def execRsv1FAt7F (_s : State) : Host.Outcome State Fault Refusal :=
  .refused (.reservedEncoding 0x1F#6 0x7F#8)

/-- OP 1F, xx ≥ 80h: reserved (R212). -/
def execRsv1FFrom80 (m : BitVec 7) (_s : State) : Host.Outcome State Fault Refusal :=
  .refused (.reservedEncoding 0x1F#6 (1#1 ++ m))

end Sys2Proof.Machine
end

