-- ==== Sys2Proof/Machine/ShiftLogic.lean ====
section
/-! DEFINITION. Shifts and logic on memory, OP 08, 09, 0A, 0C, 0E, 28 and 29 (spec/42_shift_logic_mem.md R160 to R166). -/

namespace Sys2Proof.Machine

/-- A shift of a memory byte: CF is the bit shifted out, ZF is left alone (R160 to R166). -/
def shiftMem (s : State) (o : Operand) (f : Byte → Byte × Bool) : Host.Outcome State Fault Refusal :=
  modify s o f fun _ r t => { t with cf := r.2 }

/-- A logical operation with memory destination: ZF of the result, CF is left alone (R162 to R164). -/
def logicMem (s : State) (o : Operand) (f : Byte → Byte → Byte) : Host.Outcome State Fault Refusal :=
  modify s o (fun v => (f v (s.regOperand o), s.cf)) fun _ r t => t.setZ r.1

/-- SHL [m] (R160). -/
def execShlD (m : BitVec 7) (s : State) : Host.Outcome State Fault Refusal :=
  shiftMem s (.direct m) shl8

/-- SHL [A:B] (R160). -/
def execShlP (s : State) : Host.Outcome State Fault Refusal :=
  shiftMem s .pointer shl8

/-- SHL [m:B] (R160). -/
def execShlX (m : BitVec 7) (s : State) : Host.Outcome State Fault Refusal :=
  shiftMem s (.indexed m) shl8

/-- SHR [m] (R161). -/
def execShrD (m : BitVec 7) (s : State) : Host.Outcome State Fault Refusal :=
  shiftMem s (.direct m) shr8

/-- SHR [A:B] (R161). -/
def execShrP (s : State) : Host.Outcome State Fault Refusal :=
  shiftMem s .pointer shr8

/-- SHR [m:B] (R161). -/
def execShrX (m : BitVec 7) (s : State) : Host.Outcome State Fault Refusal :=
  shiftMem s (.indexed m) shr8

/-- SHLC [m] (R165). -/
def execShlcD (m : BitVec 7) (s : State) : Host.Outcome State Fault Refusal :=
  shiftMem s (.direct m) (shlc8 · s.cf)

/-- SHLC [A:B] (R165). -/
def execShlcP (s : State) : Host.Outcome State Fault Refusal :=
  shiftMem s .pointer (shlc8 · s.cf)

/-- SHLC [m:B] (R165). -/
def execShlcX (m : BitVec 7) (s : State) : Host.Outcome State Fault Refusal :=
  shiftMem s (.indexed m) (shlc8 · s.cf)

/-- SHRC [m] (R166). -/
def execShrcD (m : BitVec 7) (s : State) : Host.Outcome State Fault Refusal :=
  shiftMem s (.direct m) (shrc8 · s.cf)

/-- SHRC [A:B] (R166). -/
def execShrcP (s : State) : Host.Outcome State Fault Refusal :=
  shiftMem s .pointer (shrc8 · s.cf)

/-- SHRC [m:B] (R166). -/
def execShrcX (m : BitVec 7) (s : State) : Host.Outcome State Fault Refusal :=
  shiftMem s (.indexed m) (shrc8 · s.cf)

/-- AND [m] (R162), the register operand is C for `[A:B]` and A otherwise. -/
def execAndMemD (m : BitVec 7) (s : State) : Host.Outcome State Fault Refusal :=
  logicMem s (.direct m) (· &&& ·)

/-- AND [A:B] (R162), the register operand is C for `[A:B]` and A otherwise. -/
def execAndMemP (s : State) : Host.Outcome State Fault Refusal :=
  logicMem s .pointer (· &&& ·)

/-- AND [m:B] (R162), the register operand is C for `[A:B]` and A otherwise. -/
def execAndMemX (m : BitVec 7) (s : State) : Host.Outcome State Fault Refusal :=
  logicMem s (.indexed m) (· &&& ·)

/-- XOR [m] (R163), the register operand is C for `[A:B]` and A otherwise. -/
def execXorMemD (m : BitVec 7) (s : State) : Host.Outcome State Fault Refusal :=
  logicMem s (.direct m) (· ^^^ ·)

/-- XOR [A:B] (R163), the register operand is C for `[A:B]` and A otherwise. -/
def execXorMemP (s : State) : Host.Outcome State Fault Refusal :=
  logicMem s .pointer (· ^^^ ·)

/-- XOR [m:B] (R163), the register operand is C for `[A:B]` and A otherwise. -/
def execXorMemX (m : BitVec 7) (s : State) : Host.Outcome State Fault Refusal :=
  logicMem s (.indexed m) (· ^^^ ·)

/-- OR [m] (R164), the register operand is C for `[A:B]` and A otherwise. -/
def execOrMemD (m : BitVec 7) (s : State) : Host.Outcome State Fault Refusal :=
  logicMem s (.direct m) (· ||| ·)

/-- OR [A:B] (R164), the register operand is C for `[A:B]` and A otherwise. -/
def execOrMemP (s : State) : Host.Outcome State Fault Refusal :=
  logicMem s .pointer (· ||| ·)

/-- OR [m:B] (R164), the register operand is C for `[A:B]` and A otherwise. -/
def execOrMemX (m : BitVec 7) (s : State) : Host.Outcome State Fault Refusal :=
  logicMem s (.indexed m) (· ||| ·)

end Sys2Proof.Machine
end

