-- ==== Sys2Proof/Machine/Ordinary.lean ====
section
/-! DEFINITION. The ordinary instruction inside a millicode end word or an opmsb word (spec/49_hard_macro.md R302, R306):
the word with bits 15 and 14 cleared, run by its own rule. -/

namespace Sys2Proof.Machine

/-- Run an ordinary instruction, one whose bits 15 and 14 are 0, by its own meaning. The last two arms are never reached
from a word: `decodeOp` yields neither. -/
def runOrdinary (i : Instr) (s : State) : Host.Outcome State Fault Refusal :=
  match i with
  | .nop xx => execNop xx s
  | .rsv01At00 => execRsv01At00 s
  | .ldAB => execLdAB s
  | .ldBA => execLdBA s
  | .swap => execSwap s
  | .rsv01From04 xx => execRsv01From04 xx s
  | .ldBC => execLdBC s
  | .getpc => execGetpc s
  | .getmc => execGetmc s
  | .rsv01At23 => execRsv01At23 s
  | .setpc => execSetpc s
  | .rsv01From25 xx => execRsv01From25 xx s
  | .setmc => execSetmc s
  | .rsv01From29 xx => execRsv01From29 xx s
  | .usermode k => execUsermode k s
  | .rsv01From32 xx => execRsv01From32 xx s
  | .offset k => execOffset k s
  | .rsv01From44 xx => execRsv01From44 xx s
  | .getstat => execGetstat s
  | .getver => execGetver s
  | .rsv01At53 => execRsv01At53 s
  | .getid => execGetid s
  | .rsv01From55 xx => execRsv01From55 xx s
  | .cpuinfo => execCpuinfo s
  | .rsv01From59 xx => execRsv01From59 xx s
  | .clear0 => execClear0 s
  | .clear1 => execClear1 s
  | .clearK k => execClearK k s
  | .rsv01From70 xx => execRsv01From70 xx s
  | .loadOpt => execLoadOpt s
  | .saveOpt => execSaveOpt s
  | .rsv01AtC3 => execRsv01AtC3 s
  | .clc => execClc s
  | .rsv01FromC5 xx => execRsv01FromC5 xx s
  | .pmemacc => execPmemacc s
  | .rsv01FromC9 xx => execRsv01FromC9 xx s
  | .int k => execInt k s
  | .disable => execDisable s
  | .enable => execEnable s
  | .rsv01FromE2 xx => execRsv01FromE2 xx s
  | .inputa => execInputa s
  | .outputb => execOutputb s
  | .inout => execInout s
  | .rsv01FromF4 xx => execRsv01FromF4 xx s
  | .ldAN n => execLdAN n s
  | .ldBN n => execLdBN n s
  | .ldCN n => execLdCN n s
  | .setflagD m => execSetflagD m s
  | .setflagP => execSetflagP s
  | .setflagX m => execSetflagX m s
  | .stAD m => execStAD m s
  | .roopshlc => execRoopshlc s
  | .stAX m => execStAX m s
  | .stBD m => execStBD m s
  | .roopshrc => execRoopshrc s
  | .zeroX m => execZeroX m s
  | .shlD m => execShlD m s
  | .shlP => execShlP s
  | .shlX m => execShlX m s
  | .shrD m => execShrD m s
  | .shrP => execShrP s
  | .shrX m => execShrX m s
  | .andMemD m => execAndMemD m s
  | .andMemP => execAndMemP s
  | .andMemX m => execAndMemX m s
  | .stCD m => execStCD m s
  | .stCP => execStCP s
  | .stCX m => execStCX m s
  | .xorMemD m => execXorMemD m s
  | .xorMemP => execXorMemP s
  | .xorMemX m => execXorMemX m s
  | .getflagD m => execGetflagD m s
  | .getflagP => execGetflagP s
  | .getflagX m => execGetflagX m s
  | .orMemD m => execOrMemD m s
  | .orMemP => execOrMemP s
  | .orMemX m => execOrMemX m s
  | .unused0F xx => execUnused0F xx s
  | .jmpM m => execJmpM m s
  | .jmpC0 => execJmpC0 s
  | .jmpC1 => execJmpC1 s
  | .jmpZ0 => execJmpZ0 s
  | .jmpZ1 => execJmpZ1 s
  | .rsv10At7E => execRsv10At7E s
  | .jmpP => execJmpP s
  | .jmpX m => execJmpX m s
  | .balM m => execBalM m s
  | .balC0 => execBalC0 s
  | .balC1 => execBalC1 s
  | .balZ0 => execBalZ0 s
  | .balZ1 => execBalZ1 s
  | .rsv11At7E => execRsv11At7E s
  | .balP => execBalP s
  | .balX m => execBalX m s
  | .jrFwd n => execJrFwd n s
  | .unusable12 => execUnusable12 s
  | .jrB => execJrB s
  | .jrBack n => execJrBack n s
  | .brFwd n => execBrFwd n s
  | .unusable13 => execUnusable13 s
  | .brB => execBrB s
  | .brBack n => execBrBack n s
  | .jrc0Fwd n => execJrc0Fwd n s
  | .unusable14 => execUnusable14 s
  | .jrc0B => execJrc0B s
  | .jrc0Back n => execJrc0Back n s
  | .brc0Fwd n => execBrc0Fwd n s
  | .unusable15 => execUnusable15 s
  | .brc0B => execBrc0B s
  | .brc0Back n => execBrc0Back n s
  | .jrc1Fwd n => execJrc1Fwd n s
  | .unusable16 => execUnusable16 s
  | .jrc1B => execJrc1B s
  | .jrc1Back n => execJrc1Back n s
  | .brc1Fwd n => execBrc1Fwd n s
  | .unusable17 => execUnusable17 s
  | .brc1B => execBrc1B s
  | .brc1Back n => execBrc1Back n s
  | .jrz0Fwd n => execJrz0Fwd n s
  | .unusable18 => execUnusable18 s
  | .jrz0B => execJrz0B s
  | .jrz0Back n => execJrz0Back n s
  | .brz0Fwd n => execBrz0Fwd n s
  | .unusable19 => execUnusable19 s
  | .brz0B => execBrz0B s
  | .brz0Back n => execBrz0Back n s
  | .jrz1Fwd n => execJrz1Fwd n s
  | .unusable1A => execUnusable1A s
  | .jrz1B => execJrz1B s
  | .jrz1Back n => execJrz1Back n s
  | .brz1Fwd n => execBrz1Fwd n s
  | .unusable1B => execUnusable1B s
  | .brz1B => execBrz1B s
  | .brz1Back n => execBrz1Back n s
  | .unused1C xx => execUnused1C xx s
  | .inD m => execInD m s
  | .inP => execInP s
  | .inX m => execInX m s
  | .outD m => execOutD m s
  | .outP => execOutP s
  | .outX m => execOutX m s
  | .reti m => execReti m s
  | .rsv1FAt7F => execRsv1FAt7F s
  | .rsv1FFrom80 m => execRsv1FFrom80 m s
  | .incD m => execIncD m s
  | .incP => execIncP s
  | .incX m => execIncX m s
  | .inccD m => execInccD m s
  | .inccP => execInccP s
  | .inccX m => execInccX m s
  | .incxD m => execIncxD m s
  | .incxP => execIncxP s
  | .incxX m => execIncxX m s
  | .incxcD m => execIncxcD m s
  | .incxcP => execIncxcP s
  | .incxcX m => execIncxcX m s
  | .addMemD m => execAddMemD m s
  | .addMemP => execAddMemP s
  | .addMemX m => execAddMemX m s
  | .addcMemD m => execAddcMemD m s
  | .addcMemP => execAddcMemP s
  | .addcMemX m => execAddcMemX m s
  | .addAD m => execAddAD m s
  | .addAC => execAddAC s
  | .addAX m => execAddAX m s
  | .addcAD m => execAddcAD m s
  | .addcAC => execAddcAC s
  | .addcAX m => execAddcAX m s
  | .shlcD m => execShlcD m s
  | .shlcP => execShlcP s
  | .shlcX m => execShlcX m s
  | .shrcD m => execShrcD m s
  | .shrcP => execShrcP s
  | .shrcX m => execShrcX m s
  | .ldAD m => execLdAD m s
  | .ldAP => execLdAP s
  | .ldAX m => execLdAX m s
  | .ldBD m => execLdBD m s
  | .ldBP => execLdBP s
  | .ldBX m => execLdBX m s
  | .ldCD m => execLdCD m s
  | .ldCP => execLdCP s
  | .ldCX m => execLdCX m s
  | .stacpD m => execStacpD m s
  | .stacpP => execStacpP s
  | .stacpX m => execStacpX m s
  | .stabD m => execStabD m s
  | .stac => execStac s
  | .stabX m => execStabX m s
  | .stabpD m => execStabpD m s
  | .stzcp => execStzcp s
  | .stabpX m => execStabpX m s
  | .decD m => execDecD m s
  | .decP => execDecP s
  | .decX m => execDecX m s
  | .deccD m => execDeccD m s
  | .deccP => execDeccP s
  | .deccX m => execDeccX m s
  | .decxD m => execDecxD m s
  | .decxP => execDecxP s
  | .decxX m => execDecxX m s
  | .decxcD m => execDecxcD m s
  | .decxcP => execDecxcP s
  | .decxcX m => execDecxcX m s
  | .subMemD m => execSubMemD m s
  | .subMemP => execSubMemP s
  | .subMemX m => execSubMemX m s
  | .subcMemD m => execSubcMemD m s
  | .subcMemP => execSubcMemP s
  | .subcMemX m => execSubcMemX m s
  | .subAD m => execSubAD m s
  | .subAC => execSubAC s
  | .subAX m => execSubAX m s
  | .subcAD m => execSubcAD m s
  | .subcAC => execSubcAC s
  | .subcAX m => execSubcAX m s
  | .loopdecWait => execLoopdecWait s
  | .loopdecFwd n => execLoopdecFwd n s
  | .loopshrc => execLoopshrc s
  | .loopdecB => execLoopdecB s
  | .loopdecBack n => execLoopdecBack n s
  | .loopzero => execLoopzero s
  | .loopincFwd n => execLoopincFwd n s
  | .loopshlc => execLoopshlc s
  | .loopincB => execLoopincB s
  | .loopincBack n => execLoopincBack n s
  | .andAD m => execAndAD m s
  | .andAC => execAndAC s
  | .andAX m => execAndAX m s
  | .andAN n => execAndAN n s
  | .xorAD m => execXorAD m s
  | .xorAC => execXorAC s
  | .xorAX m => execXorAX m s
  | .xorAN n => execXorAN n s
  | .orAD m => execOrAD m s
  | .orAC => execOrAC s
  | .orAX m => execOrAX m s
  | .orAN n => execOrAN n s
  | .hardMacro _ _ => .refused .nestedWord
  | .opmsb _ _ _ => .refused .nestedWord

end Sys2Proof.Machine
end

