-- ==== Sys2Proof/Machine/HardMacro.lean ====
section
/-! DEFINITION. Hard macro entry, the millicode end word and the opmsb word (spec/49_hard_macro.md R300 to R306). -/

namespace Sys2Proof.Machine

/-- With `MACRO_EXT` the macro bit is bit 14 AND bit 13: a word with bit 14 = 1 and bit 13 = 0 is an extended opcode,
and none is defined (R92). -/
def State.extended (s : State) (op : BitVec 6) : Bool := s.cfg.macroExt && !op.getLsbD 5

/-- Hard macro entry: xx to data address `effOF*128` and to C, MC <- op*16 + MACRO_BASE, MF <- 1; PC keeps the return
address (R301). -/
def macroEntry (op : BitVec 6) (xx : Byte) (s : State) : Host.Outcome State Fault Refusal :=
  (s.dwrite (.direct 0#7) xx).andThen fun _ t =>
    finish { t.setMc ((op.setWidth 17 <<< 4) + s.cfg.macroBase) with c := xx, mf := true }

/-- The control transfers, INT and RETI, which no millicode end word may carry (R302). -/
def transfersControl (op : BitVec 6) (xx : Byte) : Bool :=
  (0x10#6 ≤ op && op ≤ 0x1B#6) || op = 0x38#6 || op = 0x39#6 || op = 0x1F#6 ||
    (op = 0x01#6 && 0xD0#8 ≤ xx && xx ≤ 0xDF#8)

/-- The millicode end word: the ordinary instruction by its own rule, then MF <- 0 (R302). -/
def macroEnd (op : BitVec 6) (xx : Byte) (s : State) : Host.Outcome State Fault Refusal :=
  if transfersControl op xx then .refused .endTransfersControl
  else mapNext (fun t => { t with mf := false }) (runOrdinary (decodeOp op xx) s)

/-- A word with macro = 1: refused in an interrupt routine (R303), an end word while MF = 1, else an entry. -/
def macroWord (op : BitVec 6) (xx : Byte) (s : State) : Host.Outcome State Fault Refusal :=
  if s.extended op then .refused .extendedOpcode
  else if s.inInt then .refused .hardMacroInInterrupt
  else if s.mf then macroEnd op xx s
  else macroEntry op xx s

/-- MACRO op,xx, or the end of millicode (R301, R302). -/
def execHardMacro (op : BitVec 6) (xx : Byte) (s : State) : Host.Outcome State Fault Refusal :=
  macroWord op xx s

/-- The instructions that write B, on which the FAST opmsb cannot be used: LD B,A; SWAP; LD B,C; GETPC; GETMC; LD B,n;
LD B,[..]; INCX; INCXC; DECX; DECXC; the BAL and BR families (R306). -/
def writesB (op : BitVec 6) (xx : Byte) : Bool :=
  (op = 0x01#6 && (xx = 0x02#8 || xx = 0x03#8 || xx = 0x20#8 || xx = 0x21#8 || xx = 0x22#8)) ||
    op = 0x03#6 || op = 0x2B#6 || op = 0x22#6 || op = 0x23#6 || op = 0x32#6 || op = 0x33#6 ||
    op = 0x11#6 || op = 0x13#6 || op = 0x15#6 || op = 0x17#6 || op = 0x19#6 || op = 0x1B#6

/-- The instructions that step B: STACP; STABP; STZCP; OP 38; OP 39 (R306). -/
def stepsB (op : BitVec 6) : Bool :=
  op = 0x2D#6 || op = 0x2F#6 || op = 0x38#6 || op = 0x39#6

/-- The word below opmsb in FAST mode: the instruction with the old B, then B <- B + 1, except on the classes R306
refuses. -/
def fastWord (mac : Bool) (op : BitVec 6) (xx : Byte) (s : State) : Host.Outcome State Fault Refusal :=
  if mac && s.extended op then .refused .extendedOpcode
  else if mac && !s.mf then .refused .opmsbOnHardMacroEntry
  else if writesB op xx then .refused .opmsbOnWriterOfB
  else if stepsB op then .refused .opmsbOnStepperOfB
  else mapNext (fun t => { t with b := t.b + 1#8 })
    (if mac then macroWord op xx s else runOrdinary (decodeOp op xx) s)

/-- A word with opmsb = 1, by `OPMSB_MODE` (R306). -/
def execOpmsb (mac : Bool) (op : BitVec 6) (xx : Byte) (s : State) : Host.Outcome State Fault Refusal :=
  match s.cfg.opmsbMode with
  | .none => .refused .opmsbWithoutRole
  | .debug => .refused .opmsbDebugUndescribed
  | .parity => .refused .parityRuleUnsupplied
  | .fast => fastWord mac op xx s

end Sys2Proof.Machine
end

