-- ==== Sys2Proof/Machine/Dispatch.lean ====
section
/-! DEFINITION. exec: one arm per constructor of Instr, each one direct call of that instruction's meaning. -/

namespace Sys2Proof.Machine

/-- The meaning of an instruction on the state after its fetch: the active counter already holds `next` (R26, log
entry 7). -/
def exec (i : Instr) (s : State) : Host.Outcome State Fault Refusal :=
  match i with
  | .nop xx => Sys2Proof.Machine.execNop xx s
  | .rsv01At00 => Sys2Proof.Machine.execRsv01At00 s
  | .ldAB => Sys2Proof.Machine.execLdAB s
  | .ldBA => Sys2Proof.Machine.execLdBA s
  | .swap => Sys2Proof.Machine.execSwap s
  | .rsv01From04 xx => Sys2Proof.Machine.execRsv01From04 xx s
  | .ldBC => Sys2Proof.Machine.execLdBC s
  | .getpc => Sys2Proof.Machine.execGetpc s
  | .getmc => Sys2Proof.Machine.execGetmc s
  | .rsv01At23 => Sys2Proof.Machine.execRsv01At23 s
  | .setpc => Sys2Proof.Machine.execSetpc s
  | .rsv01From25 xx => Sys2Proof.Machine.execRsv01From25 xx s
  | .setmc => Sys2Proof.Machine.execSetmc s
  | .rsv01From29 xx => Sys2Proof.Machine.execRsv01From29 xx s
  | .usermode k => Sys2Proof.Machine.execUsermode k s
  | .rsv01From32 xx => Sys2Proof.Machine.execRsv01From32 xx s
  | .offset k => Sys2Proof.Machine.execOffset k s
  | .rsv01From44 xx => Sys2Proof.Machine.execRsv01From44 xx s
  | .getstat => Sys2Proof.Machine.execGetstat s
  | .getver => Sys2Proof.Machine.execGetver s
  | .rsv01At53 => Sys2Proof.Machine.execRsv01At53 s
  | .getid => Sys2Proof.Machine.execGetid s
  | .rsv01From55 xx => Sys2Proof.Machine.execRsv01From55 xx s
  | .cpuinfo => Sys2Proof.Machine.execCpuinfo s
  | .rsv01From59 xx => Sys2Proof.Machine.execRsv01From59 xx s
  | .clear0 => Sys2Proof.Machine.execClear0 s
  | .clear1 => Sys2Proof.Machine.execClear1 s
  | .clearK k => Sys2Proof.Machine.execClearK k s
  | .rsv01From70 xx => Sys2Proof.Machine.execRsv01From70 xx s
  | .loadOpt => Sys2Proof.Machine.execLoadOpt s
  | .saveOpt => Sys2Proof.Machine.execSaveOpt s
  | .rsv01AtC3 => Sys2Proof.Machine.execRsv01AtC3 s
  | .clc => Sys2Proof.Machine.execClc s
  | .rsv01FromC5 xx => Sys2Proof.Machine.execRsv01FromC5 xx s
  | .pmemacc => Sys2Proof.Machine.execPmemacc s
  | .rsv01FromC9 xx => Sys2Proof.Machine.execRsv01FromC9 xx s
  | .int k => Sys2Proof.Machine.execInt k s
  | .disable => Sys2Proof.Machine.execDisable s
  | .enable => Sys2Proof.Machine.execEnable s
  | .rsv01FromE2 xx => Sys2Proof.Machine.execRsv01FromE2 xx s
  | .inputa => Sys2Proof.Machine.execInputa s
  | .outputb => Sys2Proof.Machine.execOutputb s
  | .inout => Sys2Proof.Machine.execInout s
  | .rsv01FromF4 xx => Sys2Proof.Machine.execRsv01FromF4 xx s
  | .ldAN n => Sys2Proof.Machine.execLdAN n s
  | .ldBN n => Sys2Proof.Machine.execLdBN n s
  | .ldCN n => Sys2Proof.Machine.execLdCN n s
  | .setflagD m => Sys2Proof.Machine.execSetflagD m s
  | .setflagP => Sys2Proof.Machine.execSetflagP s
  | .setflagX m => Sys2Proof.Machine.execSetflagX m s
  | .stAD m => Sys2Proof.Machine.execStAD m s
  | .roopshlc => Sys2Proof.Machine.execRoopshlc s
  | .stAX m => Sys2Proof.Machine.execStAX m s
  | .stBD m => Sys2Proof.Machine.execStBD m s
  | .roopshrc => Sys2Proof.Machine.execRoopshrc s
  | .zeroX m => Sys2Proof.Machine.execZeroX m s
  | .shlD m => Sys2Proof.Machine.execShlD m s
  | .shlP => Sys2Proof.Machine.execShlP s
  | .shlX m => Sys2Proof.Machine.execShlX m s
  | .shrD m => Sys2Proof.Machine.execShrD m s
  | .shrP => Sys2Proof.Machine.execShrP s
  | .shrX m => Sys2Proof.Machine.execShrX m s
  | .andMemD m => Sys2Proof.Machine.execAndMemD m s
  | .andMemP => Sys2Proof.Machine.execAndMemP s
  | .andMemX m => Sys2Proof.Machine.execAndMemX m s
  | .stCD m => Sys2Proof.Machine.execStCD m s
  | .stCP => Sys2Proof.Machine.execStCP s
  | .stCX m => Sys2Proof.Machine.execStCX m s
  | .xorMemD m => Sys2Proof.Machine.execXorMemD m s
  | .xorMemP => Sys2Proof.Machine.execXorMemP s
  | .xorMemX m => Sys2Proof.Machine.execXorMemX m s
  | .getflagD m => Sys2Proof.Machine.execGetflagD m s
  | .getflagP => Sys2Proof.Machine.execGetflagP s
  | .getflagX m => Sys2Proof.Machine.execGetflagX m s
  | .orMemD m => Sys2Proof.Machine.execOrMemD m s
  | .orMemP => Sys2Proof.Machine.execOrMemP s
  | .orMemX m => Sys2Proof.Machine.execOrMemX m s
  | .unused0F xx => Sys2Proof.Machine.execUnused0F xx s
  | .jmpM m => Sys2Proof.Machine.execJmpM m s
  | .jmpC0 => Sys2Proof.Machine.execJmpC0 s
  | .jmpC1 => Sys2Proof.Machine.execJmpC1 s
  | .jmpZ0 => Sys2Proof.Machine.execJmpZ0 s
  | .jmpZ1 => Sys2Proof.Machine.execJmpZ1 s
  | .rsv10At7E => Sys2Proof.Machine.execRsv10At7E s
  | .jmpP => Sys2Proof.Machine.execJmpP s
  | .jmpX m => Sys2Proof.Machine.execJmpX m s
  | .balM m => Sys2Proof.Machine.execBalM m s
  | .balC0 => Sys2Proof.Machine.execBalC0 s
  | .balC1 => Sys2Proof.Machine.execBalC1 s
  | .balZ0 => Sys2Proof.Machine.execBalZ0 s
  | .balZ1 => Sys2Proof.Machine.execBalZ1 s
  | .rsv11At7E => Sys2Proof.Machine.execRsv11At7E s
  | .balP => Sys2Proof.Machine.execBalP s
  | .balX m => Sys2Proof.Machine.execBalX m s
  | .jrFwd n => Sys2Proof.Machine.execJrFwd n s
  | .unusable12 => Sys2Proof.Machine.execUnusable12 s
  | .jrB => Sys2Proof.Machine.execJrB s
  | .jrBack n => Sys2Proof.Machine.execJrBack n s
  | .brFwd n => Sys2Proof.Machine.execBrFwd n s
  | .unusable13 => Sys2Proof.Machine.execUnusable13 s
  | .brB => Sys2Proof.Machine.execBrB s
  | .brBack n => Sys2Proof.Machine.execBrBack n s
  | .jrc0Fwd n => Sys2Proof.Machine.execJrc0Fwd n s
  | .unusable14 => Sys2Proof.Machine.execUnusable14 s
  | .jrc0B => Sys2Proof.Machine.execJrc0B s
  | .jrc0Back n => Sys2Proof.Machine.execJrc0Back n s
  | .brc0Fwd n => Sys2Proof.Machine.execBrc0Fwd n s
  | .unusable15 => Sys2Proof.Machine.execUnusable15 s
  | .brc0B => Sys2Proof.Machine.execBrc0B s
  | .brc0Back n => Sys2Proof.Machine.execBrc0Back n s
  | .jrc1Fwd n => Sys2Proof.Machine.execJrc1Fwd n s
  | .unusable16 => Sys2Proof.Machine.execUnusable16 s
  | .jrc1B => Sys2Proof.Machine.execJrc1B s
  | .jrc1Back n => Sys2Proof.Machine.execJrc1Back n s
  | .brc1Fwd n => Sys2Proof.Machine.execBrc1Fwd n s
  | .unusable17 => Sys2Proof.Machine.execUnusable17 s
  | .brc1B => Sys2Proof.Machine.execBrc1B s
  | .brc1Back n => Sys2Proof.Machine.execBrc1Back n s
  | .jrz0Fwd n => Sys2Proof.Machine.execJrz0Fwd n s
  | .unusable18 => Sys2Proof.Machine.execUnusable18 s
  | .jrz0B => Sys2Proof.Machine.execJrz0B s
  | .jrz0Back n => Sys2Proof.Machine.execJrz0Back n s
  | .brz0Fwd n => Sys2Proof.Machine.execBrz0Fwd n s
  | .unusable19 => Sys2Proof.Machine.execUnusable19 s
  | .brz0B => Sys2Proof.Machine.execBrz0B s
  | .brz0Back n => Sys2Proof.Machine.execBrz0Back n s
  | .jrz1Fwd n => Sys2Proof.Machine.execJrz1Fwd n s
  | .unusable1A => Sys2Proof.Machine.execUnusable1A s
  | .jrz1B => Sys2Proof.Machine.execJrz1B s
  | .jrz1Back n => Sys2Proof.Machine.execJrz1Back n s
  | .brz1Fwd n => Sys2Proof.Machine.execBrz1Fwd n s
  | .unusable1B => Sys2Proof.Machine.execUnusable1B s
  | .brz1B => Sys2Proof.Machine.execBrz1B s
  | .brz1Back n => Sys2Proof.Machine.execBrz1Back n s
  | .unused1C xx => Sys2Proof.Machine.execUnused1C xx s
  | .inD m => Sys2Proof.Machine.execInD m s
  | .inP => Sys2Proof.Machine.execInP s
  | .inX m => Sys2Proof.Machine.execInX m s
  | .outD m => Sys2Proof.Machine.execOutD m s
  | .outP => Sys2Proof.Machine.execOutP s
  | .outX m => Sys2Proof.Machine.execOutX m s
  | .reti m => Sys2Proof.Machine.execReti m s
  | .rsv1FAt7F => Sys2Proof.Machine.execRsv1FAt7F s
  | .rsv1FFrom80 m => Sys2Proof.Machine.execRsv1FFrom80 m s
  | .incD m => Sys2Proof.Machine.execIncD m s
  | .incP => Sys2Proof.Machine.execIncP s
  | .incX m => Sys2Proof.Machine.execIncX m s
  | .inccD m => Sys2Proof.Machine.execInccD m s
  | .inccP => Sys2Proof.Machine.execInccP s
  | .inccX m => Sys2Proof.Machine.execInccX m s
  | .incxD m => Sys2Proof.Machine.execIncxD m s
  | .incxP => Sys2Proof.Machine.execIncxP s
  | .incxX m => Sys2Proof.Machine.execIncxX m s
  | .incxcD m => Sys2Proof.Machine.execIncxcD m s
  | .incxcP => Sys2Proof.Machine.execIncxcP s
  | .incxcX m => Sys2Proof.Machine.execIncxcX m s
  | .addMemD m => Sys2Proof.Machine.execAddMemD m s
  | .addMemP => Sys2Proof.Machine.execAddMemP s
  | .addMemX m => Sys2Proof.Machine.execAddMemX m s
  | .addcMemD m => Sys2Proof.Machine.execAddcMemD m s
  | .addcMemP => Sys2Proof.Machine.execAddcMemP s
  | .addcMemX m => Sys2Proof.Machine.execAddcMemX m s
  | .addAD m => Sys2Proof.Machine.execAddAD m s
  | .addAC => Sys2Proof.Machine.execAddAC s
  | .addAX m => Sys2Proof.Machine.execAddAX m s
  | .addcAD m => Sys2Proof.Machine.execAddcAD m s
  | .addcAC => Sys2Proof.Machine.execAddcAC s
  | .addcAX m => Sys2Proof.Machine.execAddcAX m s
  | .shlcD m => Sys2Proof.Machine.execShlcD m s
  | .shlcP => Sys2Proof.Machine.execShlcP s
  | .shlcX m => Sys2Proof.Machine.execShlcX m s
  | .shrcD m => Sys2Proof.Machine.execShrcD m s
  | .shrcP => Sys2Proof.Machine.execShrcP s
  | .shrcX m => Sys2Proof.Machine.execShrcX m s
  | .ldAD m => Sys2Proof.Machine.execLdAD m s
  | .ldAP => Sys2Proof.Machine.execLdAP s
  | .ldAX m => Sys2Proof.Machine.execLdAX m s
  | .ldBD m => Sys2Proof.Machine.execLdBD m s
  | .ldBP => Sys2Proof.Machine.execLdBP s
  | .ldBX m => Sys2Proof.Machine.execLdBX m s
  | .ldCD m => Sys2Proof.Machine.execLdCD m s
  | .ldCP => Sys2Proof.Machine.execLdCP s
  | .ldCX m => Sys2Proof.Machine.execLdCX m s
  | .stacpD m => Sys2Proof.Machine.execStacpD m s
  | .stacpP => Sys2Proof.Machine.execStacpP s
  | .stacpX m => Sys2Proof.Machine.execStacpX m s
  | .stabD m => Sys2Proof.Machine.execStabD m s
  | .stac => Sys2Proof.Machine.execStac s
  | .stabX m => Sys2Proof.Machine.execStabX m s
  | .stabpD m => Sys2Proof.Machine.execStabpD m s
  | .stzcp => Sys2Proof.Machine.execStzcp s
  | .stabpX m => Sys2Proof.Machine.execStabpX m s
  | .decD m => Sys2Proof.Machine.execDecD m s
  | .decP => Sys2Proof.Machine.execDecP s
  | .decX m => Sys2Proof.Machine.execDecX m s
  | .deccD m => Sys2Proof.Machine.execDeccD m s
  | .deccP => Sys2Proof.Machine.execDeccP s
  | .deccX m => Sys2Proof.Machine.execDeccX m s
  | .decxD m => Sys2Proof.Machine.execDecxD m s
  | .decxP => Sys2Proof.Machine.execDecxP s
  | .decxX m => Sys2Proof.Machine.execDecxX m s
  | .decxcD m => Sys2Proof.Machine.execDecxcD m s
  | .decxcP => Sys2Proof.Machine.execDecxcP s
  | .decxcX m => Sys2Proof.Machine.execDecxcX m s
  | .subMemD m => Sys2Proof.Machine.execSubMemD m s
  | .subMemP => Sys2Proof.Machine.execSubMemP s
  | .subMemX m => Sys2Proof.Machine.execSubMemX m s
  | .subcMemD m => Sys2Proof.Machine.execSubcMemD m s
  | .subcMemP => Sys2Proof.Machine.execSubcMemP s
  | .subcMemX m => Sys2Proof.Machine.execSubcMemX m s
  | .subAD m => Sys2Proof.Machine.execSubAD m s
  | .subAC => Sys2Proof.Machine.execSubAC s
  | .subAX m => Sys2Proof.Machine.execSubAX m s
  | .subcAD m => Sys2Proof.Machine.execSubcAD m s
  | .subcAC => Sys2Proof.Machine.execSubcAC s
  | .subcAX m => Sys2Proof.Machine.execSubcAX m s
  | .loopdecWait => Sys2Proof.Machine.execLoopdecWait s
  | .loopdecFwd n => Sys2Proof.Machine.execLoopdecFwd n s
  | .loopshrc => Sys2Proof.Machine.execLoopshrc s
  | .loopdecB => Sys2Proof.Machine.execLoopdecB s
  | .loopdecBack n => Sys2Proof.Machine.execLoopdecBack n s
  | .loopzero => Sys2Proof.Machine.execLoopzero s
  | .loopincFwd n => Sys2Proof.Machine.execLoopincFwd n s
  | .loopshlc => Sys2Proof.Machine.execLoopshlc s
  | .loopincB => Sys2Proof.Machine.execLoopincB s
  | .loopincBack n => Sys2Proof.Machine.execLoopincBack n s
  | .andAD m => Sys2Proof.Machine.execAndAD m s
  | .andAC => Sys2Proof.Machine.execAndAC s
  | .andAX m => Sys2Proof.Machine.execAndAX m s
  | .andAN n => Sys2Proof.Machine.execAndAN n s
  | .xorAD m => Sys2Proof.Machine.execXorAD m s
  | .xorAC => Sys2Proof.Machine.execXorAC s
  | .xorAX m => Sys2Proof.Machine.execXorAX m s
  | .xorAN n => Sys2Proof.Machine.execXorAN n s
  | .orAD m => Sys2Proof.Machine.execOrAD m s
  | .orAC => Sys2Proof.Machine.execOrAC s
  | .orAX m => Sys2Proof.Machine.execOrAX m s
  | .orAN n => Sys2Proof.Machine.execOrAN n s
  | .hardMacro op xx => Sys2Proof.Machine.execHardMacro op xx s
  | .opmsb mac op xx => Sys2Proof.Machine.execOpmsb mac op xx s

end Sys2Proof.Machine
end

