-- ==== Sys2Proof/Machine/Fetch.lean ====
section
/-! DEFINITION. Fetching and decoding at an instruction boundary, and placing an instruction where the next fetch reads it
(spec/10_state.md R26, spec/20_memory.md R50, R54, spec/49_hard_macro.md R306). -/

namespace Sys2Proof.Machine

/-- Fetch the word at the active counter and decode it. In opmsb mode PARITY no word runs: the spec does not give the
parity rule (R306). -/
def State.fetchInstr (s : State) : Res Instr :=
  match s.fetch with
  | .ok (lo, hi) t =>
    if t.cfg.opmsbMode = .parity then .refused .parityRuleUnsupplied
    else .ok (decode (wordOfBytes lo hi)) t
  | .refused r => .refused r

/-- Store bytes at rising physical addresses. -/
def Memory.setBytes (m : Memory) (p : Nat) : List Byte → Memory
  | [] => m
  | v :: rest => Memory.setBytes (m.set p v) (p + 1) rest

/-- The state with the two bytes of an opcode-table word stored at the active counter, where the next fetch reads them. -/
def State.placeWord (s : State) (nbits w : Nat) : State :=
  { s with mem := s.mem.setBytes s.cnt.toNat (tableBytes nbits w) }

end Sys2Proof.Machine
end

