-- ==== Sys2Proof/Machine/Step.lean ====
section
/-! DEFINITION. One step: an instruction boundary, then an interrupt entry or one instruction
(spec/60_exceptions.md R316, spec/10_state.md R26). -/

namespace Sys2Proof.Machine

/-- One step (R316): the input lines are sampled; a request that may be taken makes the step an interrupt entry, in which
nothing is fetched; else the instruction at the active counter is fetched, the counter advanced, and it runs. -/
def step (s : State) : Host.Outcome State Fault Refusal :=
  match s.sampleLines.pendingInterrupt with
  | some k => .next (s.sampleLines.enterInterrupt k)
  | none => s.sampleLines.fetchInstr.andThen exec

/-- `s` with the opcode-table word `w` stored at the active counter, so that the next step fetches and runs it, provided
that boundary takes no interrupt (log entries 20, 21). -/
def State.withFetchWord (s : State) (nbits w : Nat) : State := s.placeWord nbits w

end Sys2Proof.Machine
end

