-- ==== Sys2Proof/Safety.lean ====
section
/-! DEFINITION. The terms the claims use: when an instruction's data accesses are carried out, what they leave behind,
which instructions write what (spec/10_state.md R22, R36), and the invariant of the machine. -/

namespace Sys2Proof

/-- The instruction a word carries: the ordinary one below a macro or opmsb bit, else itself (R302, R306). -/
def Instr.carried : Instr → Instr
  | .hardMacro op xx => decodeOp op xx
  | .opmsb _ op xx => decodeOp op xx
  | i => i

/-- The instructions R22 lists as writing A. -/
def Instr.writesA : Instr → Bool
  | .ldAB | .swap | .getpc | .getmc | .getstat | .inputa | .inout | .ldAN _ | .balM _ | .balC0 | .balC1
  | .balZ0 | .balZ1 | .balP | .balX _ | .brFwd _ | .brB | .brBack _ | .brc0Fwd _ | .brc0B | .brc0Back _
  | .brc1Fwd _ | .brc1B | .brc1Back _ | .brz0Fwd _ | .brz0B | .brz0Back _ | .brz1Fwd _ | .brz1B | .brz1Back _
  | .incxD _ | .incxP | .incxX _ | .incxcD _ | .incxcP | .incxcX _ | .decxD _ | .decxP | .decxX _ | .decxcD _
  | .decxcP | .decxcX _ | .addAD _ | .addAC | .addAX _ | .addcAD _ | .addcAC | .addcAX _ | .subAD _ | .subAC
  | .subAX _ | .subcAD _ | .subcAC | .subcAX _ | .ldAD _ | .ldAP | .ldAX _ | .andAD _ | .andAC | .andAX _
  | .andAN _ | .xorAD _ | .xorAC | .xorAX _ | .xorAN _ | .orAD _ | .orAC | .orAX _ | .orAN _ => true
  | _ => false

/-- The instructions that write B other than by a step: the writes-B class of R306. -/
def Instr.assignsB : Instr → Bool
  | .ldBA | .swap | .ldBC | .getpc | .getmc | .ldBN _ | .balM _ | .balC0 | .balC1 | .balZ0 | .balZ1 | .balP
  | .balX _ | .brFwd _ | .brB | .brBack _ | .brc0Fwd _ | .brc0B | .brc0Back _ | .brc1Fwd _ | .brc1B
  | .brc1Back _ | .brz0Fwd _ | .brz0B | .brz0Back _ | .brz1Fwd _ | .brz1B | .brz1Back _ | .incxD _ | .incxP
  | .incxX _ | .incxcD _ | .incxcP | .incxcX _ | .decxD _ | .decxP | .decxX _ | .decxcD _ | .decxcP | .decxcX _
  | .ldBD _ | .ldBP | .ldBX _ => true
  | _ => false

/-- The instructions that step B: the steps-B class of R306. -/
def Instr.stepsB : Instr → Bool
  | .stacpD _ | .stacpP | .stacpX _ | .stabpD _ | .stabpX _ | .stzcp | .loopdecWait | .loopdecFwd _ | .loopshrc
  | .loopdecB | .loopdecBack _ | .loopzero | .loopincFwd _ | .loopshlc | .loopincB | .loopincBack _ => true
  | _ => false

/-- The instructions R22 lists as writing B, the FAST opmsb apart. -/
def Instr.stepsOrWritesB (i : Instr) : Bool := i.assignsB || i.stepsB

/-- The instructions R22 lists as writing C, hard macro entry apart. -/
def Instr.writesC : Instr → Bool
  | .getver | .getid | .cpuinfo | .ldCN _ | .ldCD _ | .ldCP | .ldCX _ | .stacpD _ | .stacpP | .stacpX _
  | .stzcp | .loopdecWait | .loopdecFwd _ | .loopshrc | .loopdecB | .loopdecBack _ | .loopzero | .loopincFwd _
  | .loopshlc | .loopincB | .loopincBack _ => true
  | _ => false

/-- The instructions that may write CF: the `○` and `CF` rows, CLC, SETFLAG and RETI (R36, R37). -/
def Instr.writesCF : Instr → Bool
  | .incD _ | .incP | .incX _ | .inccD _ | .inccP | .inccX _ | .incxD _ | .incxP | .incxX _ | .incxcD _
  | .incxcP | .incxcX _ | .addMemD _ | .addMemP | .addMemX _ | .addcMemD _ | .addcMemP | .addcMemX _ | .addAD _
  | .addAC | .addAX _ | .addcAD _ | .addcAC | .addcAX _ | .decD _ | .decP | .decX _ | .deccD _ | .deccP
  | .deccX _ | .decxD _ | .decxP | .decxX _ | .decxcD _ | .decxcP | .decxcX _ | .subMemD _ | .subMemP
  | .subMemX _ | .subcMemD _ | .subcMemP | .subcMemX _ | .subAD _ | .subAC | .subAX _ | .subcAD _ | .subcAC
  | .subcAX _ | .shlD _ | .shlP | .shlX _ | .shrD _ | .shrP | .shrX _ | .shlcD _ | .shlcP | .shlcX _ | .shrcD _
  | .shrcP | .shrcX _ | .loopshrc | .loopshlc | .clc | .setflagD _ | .setflagP | .setflagX _ | .reti _ => true
  | _ => false

/-- The instructions that may write ZF: the `○` and `ZF` rows, SETFLAG and RETI (R32, R36). -/
def Instr.writesZF : Instr → Bool
  | .incD _ | .incP | .incX _ | .inccD _ | .inccP | .inccX _ | .incxD _ | .incxP | .incxX _ | .incxcD _
  | .incxcP | .incxcX _ | .addMemD _ | .addMemP | .addMemX _ | .addcMemD _ | .addcMemP | .addcMemX _ | .addAD _
  | .addAC | .addAX _ | .addcAD _ | .addcAC | .addcAX _ | .decD _ | .decP | .decX _ | .deccD _ | .deccP
  | .deccX _ | .decxD _ | .decxP | .decxX _ | .decxcD _ | .decxcP | .decxcX _ | .subMemD _ | .subMemP
  | .subMemX _ | .subcMemD _ | .subcMemP | .subcMemX _ | .subAD _ | .subAC | .subAX _ | .subcAD _ | .subcAC
  | .subcAX _ | .andMemD _ | .andMemP | .andMemX _ | .xorMemD _ | .xorMemP | .xorMemX _ | .orMemD _ | .orMemP
  | .orMemX _ | .andAD _ | .andAC | .andAX _ | .andAN _ | .xorAD _ | .xorAC | .xorAX _ | .xorAN _ | .orAD _
  | .orAC | .orAX _ | .orAN _ | .setflagD _ | .setflagP | .setflagX _ | .reti _ => true
  | _ => false

/-- The instructions that may write UF: USERMODE, SETFLAG and RETI (R35). -/
def Instr.writesUF : Instr → Bool
  | .usermode _ | .setflagD _ | .setflagP | .setflagX _ | .reti _ => true
  | _ => false

/-- The instructions that may write OF: OFFSET, SETFLAG and RETI (R33). -/
def Instr.writesOF : Instr → Bool
  | .offset _ | .setflagD _ | .setflagP | .setflagX _ | .reti _ => true
  | _ => false

/-- The control transfers: OP 10 to 1B and the loops, OP 38 and 39 (R30, R180, R280). -/
def Instr.transfers : Instr → Bool
  | .jmpM _ | .jmpC0 | .jmpC1 | .jmpZ0 | .jmpZ1 | .jmpP | .jmpX _ | .balM _ | .balC0 | .balC1 | .balZ0 | .balZ1
  | .balP | .balX _ | .jrFwd _ | .jrB | .jrBack _ | .brFwd _ | .brB | .brBack _ | .jrc0Fwd _ | .jrc0B
  | .jrc0Back _ | .brc0Fwd _ | .brc0B | .brc0Back _ | .jrc1Fwd _ | .jrc1B | .jrc1Back _ | .brc1Fwd _ | .brc1B
  | .brc1Back _ | .jrz0Fwd _ | .jrz0B | .jrz0Back _ | .brz0Fwd _ | .brz0B | .brz0Back _ | .jrz1Fwd _ | .jrz1B
  | .jrz1Back _ | .brz1Fwd _ | .brz1B | .brz1Back _ | .loopdecWait | .loopdecFwd _ | .loopshrc | .loopdecB
  | .loopdecBack _ | .loopzero | .loopincFwd _ | .loopshlc | .loopincB | .loopincBack _ => true
  | _ => false

/-- The instructions that make a port access (R64). -/
def Instr.usesPorts : Instr → Bool
  | .inputa | .outputb | .inout | .inD _ | .inP | .inX _ | .outD _ | .outP | .outX _ => true
  | _ => false

/-- The word `op*100h + xx`, bits 15 and 14 clear for op below 40h (R81). -/
def wordAt (op xx : Nat) : InstrWord := BitVec.ofNat 16 (op * 256 + xx)

/-- The three address forms of an opcode by the value of the operand byte: 0 to 126, 127, 128 to 255 (R84). -/
def EncodedForms (op : Nat) (d : BitVec 7 → Instr) (p : Instr) (x : BitVec 7 → Instr) : Prop :=
  (∀ m : BitVec 7, m ≠ 127#7 → decode (wordAt op m.toNat) = d m) ∧ decode (wordAt op 127) = p ∧
    ∀ m : BitVec 7, decode (wordAt op (128 + m.toNat)) = x m

/-- The relative forms of an opcode: offsets 0 (or 1) to 126, 127, 128, 129 to 255 (R86). -/
def EncodedOffsets (op first : Nat) (fwd : Byte → Instr) (at127 inB : Instr) (back : Byte → Instr) : Prop :=
  (∀ n : Byte, first ≤ n.toNat → n.toNat ≤ 126 → decode (wordAt op n.toNat) = fwd n) ∧
    decode (wordAt op 127) = at127 ∧ decode (wordAt op 128) = inB ∧
      ∀ n : Byte, 129 ≤ n.toNat → decode (wordAt op n.toNat) = back n

/-- The jump selector of an opcode: 0 to 121, 122 to 125, 126, 127, 128 to 255 (R83). -/
def EncodedJumps (op : Nat) (abs : BitVec 7 → Instr) (c0 c1 z0 z1 at126 ab : Instr) (mb : BitVec 7 → Instr) : Prop :=
  (∀ m : BitVec 7, m.toNat ≤ 121 → decode (wordAt op m.toNat) = abs m) ∧ decode (wordAt op 122) = c0 ∧
    decode (wordAt op 123) = c1 ∧ decode (wordAt op 124) = z0 ∧ decode (wordAt op 125) = z1 ∧
      decode (wordAt op 126) = at126 ∧ decode (wordAt op 127) = ab ∧
        ∀ m : BitVec 7, decode (wordAt op (128 + m.toNat)) = mb m

/-- One instruction for every operand byte (R83). -/
def EncodedBytes (op : Nat) (i : Byte → Instr) : Prop := ∀ n : Byte, decode (wordAt op n.toNat) = i n

end Sys2Proof

namespace Sys2Proof.Machine

open Sys2Proof

/-- The operand an ordinary instruction may store through; `none` for one that stores nothing (R62 and the rules of the
instructions). -/
def storesThrough : Instr → Option Operand
  | .shlD m => some (.direct m)
  | .shlP => some .pointer
  | .shlX m => some (.indexed m)
  | .shrD m => some (.direct m)
  | .shrP => some .pointer
  | .shrX m => some (.indexed m)
  | .shlcD m => some (.direct m)
  | .shlcP => some .pointer
  | .shlcX m => some (.indexed m)
  | .shrcD m => some (.direct m)
  | .shrcP => some .pointer
  | .shrcX m => some (.indexed m)
  | .andMemD m => some (.direct m)
  | .andMemP => some .pointer
  | .andMemX m => some (.indexed m)
  | .xorMemD m => some (.direct m)
  | .xorMemP => some .pointer
  | .xorMemX m => some (.indexed m)
  | .orMemD m => some (.direct m)
  | .orMemP => some .pointer
  | .orMemX m => some (.indexed m)
  | .getflagD m => some (.direct m)
  | .getflagP => some .pointer
  | .getflagX m => some (.indexed m)
  | .inD m => some (.direct m)
  | .inP => some .pointer
  | .inX m => some (.indexed m)
  | .incD m => some (.direct m)
  | .incP => some .pointer
  | .incX m => some (.indexed m)
  | .inccD m => some (.direct m)
  | .inccP => some .pointer
  | .inccX m => some (.indexed m)
  | .incxD m => some (.direct m)
  | .incxP => some .pointer
  | .incxX m => some (.indexed m)
  | .incxcD m => some (.direct m)
  | .incxcP => some .pointer
  | .incxcX m => some (.indexed m)
  | .decD m => some (.direct m)
  | .decP => some .pointer
  | .decX m => some (.indexed m)
  | .deccD m => some (.direct m)
  | .deccP => some .pointer
  | .deccX m => some (.indexed m)
  | .decxD m => some (.direct m)
  | .decxP => some .pointer
  | .decxX m => some (.indexed m)
  | .decxcD m => some (.direct m)
  | .decxcP => some .pointer
  | .decxcX m => some (.indexed m)
  | .addMemD m => some (.direct m)
  | .addMemP => some .pointer
  | .addMemX m => some (.indexed m)
  | .addcMemD m => some (.direct m)
  | .addcMemP => some .pointer
  | .addcMemX m => some (.indexed m)
  | .subMemD m => some (.direct m)
  | .subMemP => some .pointer
  | .subMemX m => some (.indexed m)
  | .subcMemD m => some (.direct m)
  | .subcMemP => some .pointer
  | .subcMemX m => some (.indexed m)
  | .stCD m => some (.direct m)
  | .stCP => some .pointer
  | .stCX m => some (.indexed m)
  | .stAD m => some (.direct m)
  | .stAX m => some (.indexed m)
  | .stBD m => some (.direct m)
  | .zeroX m => some (.indexed m)
  | .stacpD _ => some .pageC
  | .stacpP => some .pageC
  | .stacpX _ => some .pageC
  | .stabD _ => some .pointer
  | .stabX _ => some .pointer
  | .stabpD _ => some .pointer
  | .stabpX _ => some .pointer
  | .stac => some .pageC
  | .stzcp => some .zeroC
  | .loopshrc => some .pointer
  | .loopzero => some .pointer
  | .loopshlc => some .pointer
  | _ => none

/-- The operand an ordinary instruction may read through; `none` for one that reads no memory (R62 and the rules of the
instructions). -/
def readsThrough : Instr → Option Operand
  | .setflagD m => some (.direct m)
  | .setflagP => some .pointer
  | .setflagX m => some (.indexed m)
  | .shlD m => some (.direct m)
  | .shlP => some .pointer
  | .shlX m => some (.indexed m)
  | .shrD m => some (.direct m)
  | .shrP => some .pointer
  | .shrX m => some (.indexed m)
  | .shlcD m => some (.direct m)
  | .shlcP => some .pointer
  | .shlcX m => some (.indexed m)
  | .shrcD m => some (.direct m)
  | .shrcP => some .pointer
  | .shrcX m => some (.indexed m)
  | .andMemD m => some (.direct m)
  | .andMemP => some .pointer
  | .andMemX m => some (.indexed m)
  | .xorMemD m => some (.direct m)
  | .xorMemP => some .pointer
  | .xorMemX m => some (.indexed m)
  | .orMemD m => some (.direct m)
  | .orMemP => some .pointer
  | .orMemX m => some (.indexed m)
  | .outD m => some (.direct m)
  | .outP => some .pointer
  | .outX m => some (.indexed m)
  | .reti m => some (.direct m)
  | .incD m => some (.direct m)
  | .incP => some .pointer
  | .incX m => some (.indexed m)
  | .inccD m => some (.direct m)
  | .inccP => some .pointer
  | .inccX m => some (.indexed m)
  | .incxD m => some (.direct m)
  | .incxP => some .pointer
  | .incxX m => some (.indexed m)
  | .incxcD m => some (.direct m)
  | .incxcP => some .pointer
  | .incxcX m => some (.indexed m)
  | .addMemD m => some (.direct m)
  | .addMemP => some .pointer
  | .addMemX m => some (.indexed m)
  | .addcMemD m => some (.direct m)
  | .addcMemP => some .pointer
  | .addcMemX m => some (.indexed m)
  | .decD m => some (.direct m)
  | .decP => some .pointer
  | .decX m => some (.indexed m)
  | .deccD m => some (.direct m)
  | .deccP => some .pointer
  | .deccX m => some (.indexed m)
  | .decxD m => some (.direct m)
  | .decxP => some .pointer
  | .decxX m => some (.indexed m)
  | .decxcD m => some (.direct m)
  | .decxcP => some .pointer
  | .decxcX m => some (.indexed m)
  | .subMemD m => some (.direct m)
  | .subMemP => some .pointer
  | .subMemX m => some (.indexed m)
  | .subcMemD m => some (.direct m)
  | .subcMemP => some .pointer
  | .subcMemX m => some (.indexed m)
  | .addAD m => some (.direct m)
  | .addAX m => some (.indexed m)
  | .addcAD m => some (.direct m)
  | .addcAX m => some (.indexed m)
  | .subAD m => some (.direct m)
  | .subAX m => some (.indexed m)
  | .subcAD m => some (.direct m)
  | .subcAX m => some (.indexed m)
  | .andAD m => some (.direct m)
  | .andAX m => some (.indexed m)
  | .xorAD m => some (.direct m)
  | .xorAX m => some (.indexed m)
  | .orAD m => some (.direct m)
  | .orAX m => some (.indexed m)
  | .ldAD m => some (.direct m)
  | .ldAP => some .pointer
  | .ldAX m => some (.indexed m)
  | .ldBD m => some (.direct m)
  | .ldBP => some .pointer
  | .ldBX m => some (.indexed m)
  | .ldCD m => some (.direct m)
  | .ldCP => some .pointer
  | .ldCX m => some (.indexed m)
  | .stacpD m => some (.direct m)
  | .stacpP => some .pointer
  | .stacpX m => some (.indexed m)
  | .stabD m => some (.direct m)
  | .stabX m => some (.indexed m)
  | .stabpD m => some (.direct m)
  | .stabpX m => some (.indexed m)
  | .stac => some .pointer
  | .stzcp => some .pointer
  | .loopshrc => some .pointer
  | .loopshlc => some .pointer
  | _ => none

/-- The operand `i` may read through in state `s`: hard macro entry reads none, a millicode end word and an opmsb word
read as the instruction they carry (R301, R302, R306). -/
def State.readOperand (s : State) (i : Instr) : Option Operand :=
  match i with
  | .hardMacro _ _ => if s.mf then readsThrough i.carried else none
  | _ => readsThrough i.carried

/-- The operand `i` may store through in state `s`: hard macro entry stores through the direct address 0 (R301), a
millicode end word and an opmsb word as the instruction they carry (R302, R306). -/
def State.storeOperand (s : State) (i : Instr) : Option Operand :=
  match i with
  | .hardMacro _ _ => if s.mf then storesThrough i.carried else some (.direct 0#7)
  | _ => storesThrough i.carried

/-- A read through `o` is carried out: restricted (it then yields a free value), or inside the installed memory. -/
def State.readable (s : State) (o : Operand) : Prop :=
  s.restricted o = true ∨ s.phys (s.ea o) < s.cfg.memBytes

/-- A write through `o` is carried out: suppressed, or inside the installed memory and not into the following
instruction. -/
def State.writable (s : State) (o : Operand) : Prop :=
  s.restricted o = true ∨ (s.pa = true ∧ s.userMode = true) ∨
    (s.phys (s.ea o) < s.cfg.memBytes ∧ s.hitsNext (s.phys (s.ea o)) = false)

/-- The byte a read through `o` yields: the memory byte, or for a restricted read a free value. -/
def State.byteAt (s : State) (o : Operand) : Byte :=
  if s.restricted o then Config.freeByte s.draws else s.mem.read (s.phys (s.ea o))

/-- The state a read through `o` leaves: unchanged, or for a restricted read AE set and one free value drawn. -/
def State.afterRead (s : State) (o : Operand) : State :=
  if s.restricted o then { s with ae := true, draws := s.draws + 1 } else s

/-- The state a write of `v` through `o` leaves: AE set where restricted, nothing under PMEMACC in user mode, else the
one byte replaced. -/
def State.afterWrite (s : State) (o : Operand) (v : Byte) : State :=
  if s.restricted o then { s with ae := true }
  else if s.pa && s.userMode then s
  else { s with mem := s.mem.set (s.phys (s.ea o)) v }

/-- `i` reads `o` and goes on with `k` of the state before, the byte and the state after the read. -/
def Reads (i : Instr) (o : Operand) (k : State → Byte → State → State) : Prop :=
  ∀ s : State, s.readable o → exec i s = .next { k s (s.byteAt o) (s.afterRead o) with pa := false }

/-- `i` stores the byte `f` of the state before through `o`, and does nothing else. -/
def Stores (i : Instr) (o : Operand) (f : State → Byte) : Prop :=
  ∀ s : State, s.writable o → exec i s = .next { s.afterWrite o (f s) with pa := false }

/-- `i` reads `o`, writes the byte `f` back through it, and goes on with `k`. -/
def Modifies (i : Instr) (o : Operand) (f : State → Byte → Byte) (k : State → Byte → State → State) : Prop :=
  ∀ s : State, s.readable o → s.writable o →
    exec i s = .next { k s (s.byteAt o) ((s.afterRead o).afterWrite o (f s (s.byteAt o))) with pa := false }

/-- `i` copies the byte at `src` to `dst` and goes on with `k`. -/
def Copies (i : Instr) (src dst : Operand) (k : State → State → State) : Prop :=
  ∀ s : State, s.readable src → s.writable dst →
    exec i s = .next { k s ((s.afterRead src).afterWrite dst (s.byteAt src)) with pa := false }

/-- `i` completes with the state `k` makes, whatever the state. -/
def Completes (i : Instr) (k : State → State) : Prop :=
  ∀ s : State, exec i s = .next { k s with pa := false }

/-- `i` is refused for the reason `r` in every state. -/
def Refuses (i : Instr) (r : Refusal) : Prop := ∀ s : State, exec i s = .refused r

/-- The same claim for the three address forms of an opcode (R84). -/
def AllForms (d : BitVec 7 → Instr) (p : Instr) (x : BitVec 7 → Instr) (claim : Instr → Operand → Prop) : Prop :=
  (∀ m, claim (d m) (.direct m)) ∧ claim p .pointer ∧ ∀ m, claim (x m) (.indexed m)

/-- The ordinary instruction a word runs in a state: below a macro bit the carried one while MF = 1 and none, a NOP, at a
hard macro entry; below opmsb the carried one (R301, R302, R306). -/
def State.ordinary (s : State) : Instr → Instr
  | .hardMacro op xx => if s.mf then decodeOp op xx else .nop xx
  | .opmsb _ op xx => decodeOp op xx
  | i => i

/-- The active counter takes the low `W` bits of an address computed exactly; the other counters stay (R27, R29). -/
def State.branchTo (s : State) (x : Int) : State :=
  let v : Counter := BitVec.ofInt 17 (x % 2 ^ s.cfg.width)
  if s.inInt then { s with ic := v } else if s.mf then { s with mc := v } else { s with pc := v }

/-- The link value `next / 2`, its low 16 bits, in A and B (R188). -/
def State.linked (s : State) : State :=
  { s with a := BitVec.ofNat 8 (s.cnt.toNat / 512), b := BitVec.ofNat 8 (s.cnt.toNat / 2) }

/-- The number `A*256 + B` (R21). -/
def State.abNat (s : State) : Nat := s.a.toNat * 256 + s.b.toNat

/-- `i` goes to byte address `target` if `taken`, else on to the next instruction. -/
def Branches (i : Instr) (taken : State → Bool) (target : State → Int) : Prop :=
  ∀ s : State, exec i s = .next { (if taken s then s.branchTo (target s) else s) with pa := false }

/-- As `Branches`, and the link value is written to A and B if the branch is taken. -/
def Links (i : Instr) (taken : State → Bool) (target : State → Int) : Prop :=
  ∀ s : State, exec i s = .next { (if taken s then s.linked.branchTo (target s) else s) with pa := false }

/-- One relative jump in its three encodings: the offset counts words from the next instruction (R190). -/
def RelativeJump (fwd : Byte → Instr) (inB : Instr) (back : Byte → Instr) (taken : State → Bool) : Prop :=
  (∀ n, Branches (fwd n) taken fun s => s.cnt.toNat + 2 * n.toInt) ∧
    (Branches inB taken fun s => s.cnt.toNat + 2 * s.b.toInt) ∧
      ∀ n, Branches (back n) taken fun s => s.cnt.toNat + 2 * n.toInt

/-- One relative call in its three encodings (R190, R199). -/
def RelativeCall (fwd : Byte → Instr) (inB : Instr) (back : Byte → Instr) (taken : State → Bool) : Prop :=
  (∀ n, Links (fwd n) taken fun s => s.cnt.toNat + 2 * n.toInt) ∧
    (Links inB taken fun s => s.cnt.toNat + 2 * s.b.toInt) ∧
      ∀ n, Links (back n) taken fun s => s.cnt.toNat + 2 * n.toInt

/-- C counted down and B moved by `step`, both modulo 256 (R280). -/
def State.counted (s : State) (step : Int) : State :=
  { s with c := BitVec.ofNat 8 (s.c.toNat + 255), b := BitVec.ofInt 8 (s.b.toNat + step) }

/-- A plain loop: with C = 0 on to the next instruction, else to `target` (R280). -/
def CountsDown (i : Instr) (target : State → Int) (step : Int) : Prop :=
  ∀ s : State, exec i s =
    .next { (if s.c = 0#8 then s else (s.counted step).branchTo (target s)) with pa := false }

/-- CF and ZF of an exact sum (R220). -/
def State.sumFlags (s : State) (n : Nat) : State := { s with cf := decide (255 < n), zf := decide (n % 256 = 0) }

/-- CF and ZF of an exact difference (R220). -/
def State.diffFlags (s : State) (d : Int) : State := { s with cf := decide (d < 0), zf := decide (d % 256 = 0) }

/-- The byte the environment presents to the next port input (R64, log entry 6). -/
def State.nextInput (s : State) : Byte := s.portScript.headD (Config.freePortByte s.draws)

/-- The state after a port input on `port` (R64, log entry 6). -/
def State.afterInput (s : State) (port : Byte) : State :=
  { s with
    portScript := s.portScript.tail
    draws := if s.portScript = [] then s.draws + 1 else s.draws
    events := s.events ++ [.input port s.nextInput] }

/-- The two memories hold the same bytes outside the physical addresses `lo` to `hi - 1`. -/
def AgreeOutside (lo hi : Nat) (m m' : Memory) : Prop := ∀ p, p < lo ∨ hi ≤ p → m.read p = m'.read p

/-- Two outcomes that differ in nothing but memory bytes from `lo` to `hi - 1`. -/
def SameOutcomeOutside (lo hi : Nat) (o o' : Host.Outcome State Fault Refusal) : Prop :=
  match o, o' with
  | .next t, .next t' => AgreeOutside lo hi t.mem t'.mem ∧ t' = { t with mem := t'.mem }
  | .fault f, .fault f' => f = f'
  | .refused r, .refused r' => r = r'
  | _, _ => False

end Sys2Proof.Machine

namespace Sys2Proof

/-- The parameters are ones R5, R23 and R28 allow: W from 9 to 17, JRA one bit less, 512 bytes to 192 KB, a data area
inside the memory, even RESET_PC and MACRO_BASE, RESET_PC a `W`-bit value. -/
def Config.wf (c : Config) : Prop :=
  9 ≤ c.width ∧ c.width ≤ 17 ∧ c.jraWidth + 1 = c.width ∧ 512 ≤ c.memBytes ∧ c.memBytes ≤ 196608 ∧
    c.dataBase ≤ c.memBytes ∧ c.resetPc.getLsbD 0 = false ∧ c.resetPc.toNat < 2 ^ c.width ∧ c.macroBase.getLsbD 0 = false

end Sys2Proof

namespace Sys2Proof.Machine

/-- A counter value that can stand at an instruction boundary: even and of `W` bits (R24, R28). -/
def CounterOk (c : Config) (v : Counter) : Prop := v.getLsbD 0 = false ∧ v.toNat < 2 ^ c.width

/-- What every step keeps: allowed parameters, memory in canonical form and inside the installed bytes, even counters of
`W` bits, TM = 0, and UF and AE at 0 on a core without user mode. -/
structure State.Inv (s : State) : Prop where
  cfg_wf : s.cfg.wf
  mem_wf : s.mem.wf
  mem_installed : ∀ e ∈ s.mem, e.1 < s.cfg.memBytes
  pc_ok : CounterOk s.cfg s.pc
  mc_ok : CounterOk s.cfg s.mc
  ic_ok : CounterOk s.cfg s.ic
  tm_zero : s.tm = false
  no_user_mode : s.cfg.hasUserMode = false → s.uf = false ∧ s.ae = false

end Sys2Proof.Machine
end

