-- ==== Sys2Proof/Certificates/Slice0/Obligations.lean ====
section
/-! DEFINITION. The statements for the provers (OBLIGATIONS.json lists them). They speak of the machine, of no program. -/

section Statements

open Sys2Proof Sys2Proof.Machine

/-- Decoding the word of a well-formed instruction gives the instruction back. For every instruction of the opcode table,
at every operand value the encoding admits, decode of encode is the instruction. [spec/30_encoding.md R81,
spec/30_encoding.md R83 to R89] -/
def Obligations.DecodeEncodeRoundTrip : Prop :=
  ∀ i : Instr, i.wf = true → decode (encode i) = i

/-- Every 16-bit word decodes to a well-formed instruction whose word it is. All 65536 words belong to the opcode table:
each decodes to a well-formed instruction, and encoding that instruction gives the word back, so no bit is dropped and
no two words share an instruction. [spec/30_encoding.md R81, spec/30_encoding.md R83 to R89] -/
def Obligations.EncodeDecodeRoundTrip : Prop :=
  ∀ w : InstrWord, (decode w).wf = true ∧ encode (decode w) = w

/-- Instruction bytes: operand byte first, then the opcode byte, and they decode back. The two bytes of an instruction are
its low byte, then its high byte; a byte list that begins with them decodes to the instruction and leaves the rest; a
shorter list is not decoded. R50 is marked derived in the spec. [spec/20_memory.md section 1, spec/30_encoding.md R80] -/
def Obligations.BytesInStorageOrder : Prop :=
  (∀ i : Instr, encodeBytes i = [BitVec.ofNat 8 (encode i).toNat, BitVec.ofNat 8 ((encode i).toNat / 256)]) ∧
    (∀ (i : Instr) (rest : List Byte), i.wf = true → decodeBytes (encodeBytes i ++ rest) = .ok (i, rest)) ∧
      decodeBytes [] = .error .truncated ∧ ∀ v : Byte, decodeBytes [v] = .error .truncated

/-- Words the spec writes out decode to the instructions it names. Thirty-five words printed in the rules of spec/40 to
49, at least one of each family, decode to the instruction of the rule. [spec/40_nop_and_control.md,
spec/41_imm_flags_store.md, spec/42_shift_logic_mem.md, spec/43_branch.md, spec/44_io_reti.md, spec/45_arith.md,
spec/46_load_copy.md, spec/47_loop.md, spec/48_logic_a.md, spec/49_hard_macro.md] -/
def Obligations.DecodedSampleWords : Prop :=
  decode 0x0000#16 = .nop 0x00#8 ∧ decode 0x0103#16 = .swap ∧ decode 0x0131#16 = .usermode 1#1 ∧
    decode 0x0142#16 = .offset 2#2 ∧ decode 0x0161#16 = .clear1 ∧ decode 0x01C8#16 = .pmemacc ∧
    decode 0x01D3#16 = .int 3#4 ∧ decode 0x01F3#16 = .inout ∧ decode 0x0212#16 = .ldAN 0x12#8 ∧
    decode 0x0510#16 = .setflagD 0x10#7 ∧ decode 0x067F#16 = .roopshlc ∧ decode 0x0681#16 = .stAX 1#7 ∧
    decode 0x0782#16 = .zeroX 2#7 ∧ decode 0x0B7F#16 = .stCP ∧ decode 0x0A10#16 = .andMemD 0x10#7 ∧
    decode 0x1079#16 = .jmpM 121#7 ∧ decode 0x107A#16 = .jmpC0 ∧ decode 0x1181#16 = .balX 1#7 ∧
    decode 0x1280#16 = .jrB ∧ decode 0x12FF#16 = .jrBack 0xFF#8 ∧ decode 0x1310#16 = .brFwd 0x10#8 ∧
    decode 0x1D30#16 = .inD 0x30#7 ∧ decode 0x1F7E#16 = .reti 0x7E#7 ∧ decode 0x2210#16 = .incxD 0x10#7 ∧
    decode 0x267F#16 = .addAC ∧ decode 0x377F#16 = .subcAC ∧ decode 0x2E7F#16 = .stac ∧
    decode 0x2F7F#16 = .stzcp ∧ decode 0x3800#16 = .loopdecWait ∧ decode 0x387F#16 = .loopshrc ∧
    decode 0x3900#16 = .loopzero ∧ decode 0x3B80#16 = .andAN 0x80#8 ∧ decode 0x3E83#16 = .orAX 3#7 ∧
    decode 0x4305#16 = .hardMacro 3#6 5#8 ∧ decode 0x8681#16 = .opmsb false 6#6 0x81#8

/-- The opcode map but OP 01: each OP and operand byte selects the table's instruction and form. For each of the OP codes
00 and 02 to 3F, every value of the operand byte decodes to the constructor and operand of its row: the three address
forms, the jump selector, the relative offsets with 7Fh and 80h, the immediates, the unused and reserved rows; a word
with bit 14 is a hard macro word and one with bit 15 an opmsb word, with all their bits kept. [spec/30_encoding.md
R81, spec/30_encoding.md R83, spec/30_encoding.md R84, spec/30_encoding.md R86, spec/30_encoding.md R87,
spec/30_encoding.md R89] -/
def Obligations.OpcodeMap : Prop :=
  EncodedBytes 0x00 .nop ∧
    EncodedBytes 0x02 .ldAN ∧
    EncodedBytes 0x03 .ldBN ∧
    EncodedBytes 0x04 .ldCN ∧
    EncodedBytes 0x0F .unused0F ∧
    EncodedBytes 0x1C .unused1C ∧
    EncodedBytes 0x3B .andAN ∧
    EncodedBytes 0x3D .xorAN ∧
    EncodedBytes 0x3F .orAN ∧
    EncodedForms 0x05 .setflagD .setflagP .setflagX ∧
    EncodedForms 0x06 .stAD .roopshlc .stAX ∧
    EncodedForms 0x07 .stBD .roopshrc .zeroX ∧
    EncodedForms 0x08 .shlD .shlP .shlX ∧
    EncodedForms 0x09 .shrD .shrP .shrX ∧
    EncodedForms 0x0A .andMemD .andMemP .andMemX ∧
    EncodedForms 0x0B .stCD .stCP .stCX ∧
    EncodedForms 0x0C .xorMemD .xorMemP .xorMemX ∧
    EncodedForms 0x0D .getflagD .getflagP .getflagX ∧
    EncodedForms 0x0E .orMemD .orMemP .orMemX ∧
    EncodedForms 0x1D .inD .inP .inX ∧
    EncodedForms 0x1E .outD .outP .outX ∧
    EncodedForms 0x1F .reti .rsv1FAt7F .rsv1FFrom80 ∧
    EncodedForms 0x20 .incD .incP .incX ∧
    EncodedForms 0x21 .inccD .inccP .inccX ∧
    EncodedForms 0x22 .incxD .incxP .incxX ∧
    EncodedForms 0x23 .incxcD .incxcP .incxcX ∧
    EncodedForms 0x24 .addMemD .addMemP .addMemX ∧
    EncodedForms 0x25 .addcMemD .addcMemP .addcMemX ∧
    EncodedForms 0x26 .addAD .addAC .addAX ∧
    EncodedForms 0x27 .addcAD .addcAC .addcAX ∧
    EncodedForms 0x28 .shlcD .shlcP .shlcX ∧
    EncodedForms 0x29 .shrcD .shrcP .shrcX ∧
    EncodedForms 0x2A .ldAD .ldAP .ldAX ∧
    EncodedForms 0x2B .ldBD .ldBP .ldBX ∧
    EncodedForms 0x2C .ldCD .ldCP .ldCX ∧
    EncodedForms 0x2D .stacpD .stacpP .stacpX ∧
    EncodedForms 0x2E .stabD .stac .stabX ∧
    EncodedForms 0x2F .stabpD .stzcp .stabpX ∧
    EncodedForms 0x30 .decD .decP .decX ∧
    EncodedForms 0x31 .deccD .deccP .deccX ∧
    EncodedForms 0x32 .decxD .decxP .decxX ∧
    EncodedForms 0x33 .decxcD .decxcP .decxcX ∧
    EncodedForms 0x34 .subMemD .subMemP .subMemX ∧
    EncodedForms 0x35 .subcMemD .subcMemP .subcMemX ∧
    EncodedForms 0x36 .subAD .subAC .subAX ∧
    EncodedForms 0x37 .subcAD .subcAC .subcAX ∧
    EncodedForms 0x3A .andAD .andAC .andAX ∧
    EncodedForms 0x3C .xorAD .xorAC .xorAX ∧
    EncodedForms 0x3E .orAD .orAC .orAX ∧
    EncodedJumps 0x10 .jmpM .jmpC0 .jmpC1 .jmpZ0 .jmpZ1 .rsv10At7E .jmpP .jmpX ∧
    EncodedJumps 0x11 .balM .balC0 .balC1 .balZ0 .balZ1 .rsv11At7E .balP .balX ∧
    EncodedOffsets 0x12 0 .jrFwd .unusable12 .jrB .jrBack ∧
    EncodedOffsets 0x13 0 .brFwd .unusable13 .brB .brBack ∧
    EncodedOffsets 0x14 0 .jrc0Fwd .unusable14 .jrc0B .jrc0Back ∧
    EncodedOffsets 0x15 0 .brc0Fwd .unusable15 .brc0B .brc0Back ∧
    EncodedOffsets 0x16 0 .jrc1Fwd .unusable16 .jrc1B .jrc1Back ∧
    EncodedOffsets 0x17 0 .brc1Fwd .unusable17 .brc1B .brc1Back ∧
    EncodedOffsets 0x18 0 .jrz0Fwd .unusable18 .jrz0B .jrz0Back ∧
    EncodedOffsets 0x19 0 .brz0Fwd .unusable19 .brz0B .brz0Back ∧
    EncodedOffsets 0x1A 0 .jrz1Fwd .unusable1A .jrz1B .jrz1Back ∧
    EncodedOffsets 0x1B 0 .brz1Fwd .unusable1B .brz1B .brz1Back ∧
    (decode (wordAt 0x38 0) = .loopdecWait ∧ EncodedOffsets 0x38 1 .loopdecFwd .loopshrc .loopdecB .loopdecBack) ∧
    (decode (wordAt 0x39 0) = .loopzero ∧ EncodedOffsets 0x39 1 .loopincFwd .loopshlc .loopincB .loopincBack) ∧
    (∀ (op : BitVec 6) (xx : Byte), decode (wordAt (64 + op.toNat) xx.toNat) = .hardMacro op xx) ∧
    ∀ (op : BitVec 6) (xx : Byte) (mac : Bool), decode (wordAt (128 + 64 * mac.toNat + op.toNat) xx.toNat) = .opmsb mac op xx

/-- The opcode map of OP 01: each operand byte selects its sub-operation, every other value is reserved. Each value of xx
under OP 01 decodes to the sub-operation of R88 or to the reserved row of R89 that lists it, with its number k or its
byte kept. [spec/30_encoding.md R88, spec/30_encoding.md R89] -/
def Obligations.ControlOpcodeMap : Prop :=
  decode 0x0100#16 = .rsv01At00 ∧
    decode 0x0101#16 = .ldAB ∧
    decode 0x0102#16 = .ldBA ∧
    decode 0x0103#16 = .swap ∧
    (∀ xx : Byte, 0x04 ≤ xx.toNat → xx.toNat ≤ 0x1F → decode (wordAt 0x01 xx.toNat) = .rsv01From04 xx) ∧
    decode 0x0120#16 = .ldBC ∧
    decode 0x0121#16 = .getpc ∧
    decode 0x0122#16 = .getmc ∧
    decode 0x0123#16 = .rsv01At23 ∧
    decode 0x0124#16 = .setpc ∧
    (∀ xx : Byte, 0x25 ≤ xx.toNat → xx.toNat ≤ 0x27 → decode (wordAt 0x01 xx.toNat) = .rsv01From25 xx) ∧
    decode 0x0128#16 = .setmc ∧
    (∀ xx : Byte, 0x29 ≤ xx.toNat → xx.toNat ≤ 0x2F → decode (wordAt 0x01 xx.toNat) = .rsv01From29 xx) ∧
    (∀ xx : Byte, 0x32 ≤ xx.toNat → xx.toNat ≤ 0x3F → decode (wordAt 0x01 xx.toNat) = .rsv01From32 xx) ∧
    (∀ xx : Byte, 0x44 ≤ xx.toNat → xx.toNat ≤ 0x50 → decode (wordAt 0x01 xx.toNat) = .rsv01From44 xx) ∧
    decode 0x0151#16 = .getstat ∧
    decode 0x0152#16 = .getver ∧
    decode 0x0153#16 = .rsv01At53 ∧
    decode 0x0154#16 = .getid ∧
    (∀ xx : Byte, 0x55 ≤ xx.toNat → xx.toNat ≤ 0x57 → decode (wordAt 0x01 xx.toNat) = .rsv01From55 xx) ∧
    decode 0x0158#16 = .cpuinfo ∧
    (∀ xx : Byte, 0x59 ≤ xx.toNat → xx.toNat ≤ 0x5F → decode (wordAt 0x01 xx.toNat) = .rsv01From59 xx) ∧
    decode 0x0160#16 = .clear0 ∧
    decode 0x0161#16 = .clear1 ∧
    (∀ xx : Byte, 0x70 ≤ xx.toNat → xx.toNat ≤ 0xC0 → decode (wordAt 0x01 xx.toNat) = .rsv01From70 xx) ∧
    decode 0x01C1#16 = .loadOpt ∧
    decode 0x01C2#16 = .saveOpt ∧
    decode 0x01C3#16 = .rsv01AtC3 ∧
    decode 0x01C4#16 = .clc ∧
    (∀ xx : Byte, 0xC5 ≤ xx.toNat → xx.toNat ≤ 0xC7 → decode (wordAt 0x01 xx.toNat) = .rsv01FromC5 xx) ∧
    decode 0x01C8#16 = .pmemacc ∧
    (∀ xx : Byte, 0xC9 ≤ xx.toNat → xx.toNat ≤ 0xCF → decode (wordAt 0x01 xx.toNat) = .rsv01FromC9 xx) ∧
    decode 0x01E0#16 = .disable ∧
    decode 0x01E1#16 = .enable ∧
    (∀ xx : Byte, 0xE2 ≤ xx.toNat → xx.toNat ≤ 0xF0 → decode (wordAt 0x01 xx.toNat) = .rsv01FromE2 xx) ∧
    decode 0x01F1#16 = .inputa ∧
    decode 0x01F2#16 = .outputb ∧
    decode 0x01F3#16 = .inout ∧
    (∀ xx : Byte, 0xF4 ≤ xx.toNat → xx.toNat ≤ 0xFF → decode (wordAt 0x01 xx.toNat) = .rsv01FromF4 xx) ∧
    (∀ k : BitVec 1, decode (wordAt 0x01 (0x30 + k.toNat)) = .usermode k) ∧
    (∀ k : BitVec 2, decode (wordAt 0x01 (0x40 + k.toNat)) = .offset k) ∧
    (∀ k : BitVec 4, 2 ≤ k.toNat → decode (wordAt 0x01 (0x60 + k.toNat)) = .clearK k) ∧
    ∀ k : BitVec 4, decode (wordAt 0x01 (0xD0 + k.toNat)) = .int k

/-- A step runs the instruction that the two bytes at the active counter decode to. At a boundary that takes no interrupt,
with an even active counter whose two bytes are installed and opmsb mode other than PARITY: if the bytes, operand byte
first, decode to i, then step is exec of i in the state whose lines are sampled and whose active counter has moved
past the word, modulo 2^W. R26, R50, R54 and R316 carry decisions of the spec. [spec/10_state.md section 3,
spec/20_memory.md sections 1 and 3, spec/60_exceptions.md section 2] -/
def Obligations.StepRunsDecodedInstruction : Prop :=
  ∀ (s : State) (i : Instr),
    (s.inInt = true ∨ s.ef = false ∨
      (s.sampleLines.lines.int0 = false ∧ s.sampleLines.lines.int1 = false ∧ s.accessError = false)) →
    s.cnt.toNat % 2 = 0 → s.cnt.toNat < s.cfg.memBytes → (s.cnt.toNat + 1) % 2 ^ s.cfg.width < s.cfg.memBytes →
    s.cfg.opmsbMode ≠ .parity →
    decode (s.mem.read ((s.cnt.toNat + 1) % 2 ^ s.cfg.width) ++ s.mem.read s.cnt.toNat) = i →
    i.wf = true ∧ step s = exec i (s.sampleLines.branchTo (s.cnt.toNat + 2))

/-- The fetch is refused on an odd counter, outside the installed memory, and in opmsb mode PARITY. At a boundary that
takes no interrupt: an odd active counter is refused; an even one whose first or second byte is not installed is
refused with that address; else mode PARITY refuses the word. R52, R54 and R306 carry decisions of the spec (D17, D18,
D20); the order of the refusals is log entry 18. [spec/20_memory.md sections 2 and 3, spec/49_hard_macro.md section 2,
spec/93_implementation_defined.md V4, V8] -/
def Obligations.FetchStops : Prop :=
  ∀ s : State,
    (s.inInt = true ∨ s.ef = false ∨
      (s.sampleLines.lines.int0 = false ∧ s.sampleLines.lines.int1 = false ∧ s.accessError = false)) →
    (s.cnt.toNat % 2 = 1 → step s = .refused (.oddCounter s.cnt)) ∧
      (s.cnt.toNat % 2 = 0 → s.cfg.memBytes ≤ s.cnt.toNat → step s = .refused (.fetchOutsideMemory s.cnt.toNat)) ∧
      (s.cnt.toNat % 2 = 0 → s.cnt.toNat < s.cfg.memBytes → s.cfg.memBytes ≤ (s.cnt.toNat + 1) % 2 ^ s.cfg.width →
        step s = .refused (.fetchOutsideMemory ((s.cnt.toNat + 1) % 2 ^ s.cfg.width))) ∧
      (s.cnt.toNat % 2 = 0 → s.cnt.toNat < s.cfg.memBytes → (s.cnt.toNat + 1) % 2 ^ s.cfg.width < s.cfg.memBytes →
        s.cfg.opmsbMode = .parity → step s = .refused .parityRuleUnsupplied)

/-- With IF = 0 and EF = 1 a boundary enters INT0 at 32 before INT1 or AE at 62, changing IF and IC only. INT0 requested:
the step is an entry, IF is 1, IC is 32 and nothing else changes but the sampled lines; INT0 not requested and INT1 or
AE requested: the same with 62. Nothing is fetched. R316 and R313 carry decisions of the spec (D13, D14, D25).
[spec/60_exceptions.md sections 2, 3 and 4] -/
def Obligations.BoundaryTakesInterrupt : Prop :=
  ∀ s : State, 9 ≤ s.cfg.width → s.inInt = false → s.ef = true →
    (s.sampleLines.lines.int0 = true → step s = .next { s.sampleLines with inInt := true, ic := 32#17 }) ∧
      (s.sampleLines.lines.int0 = false → (s.sampleLines.lines.int1 = true ∨ s.accessError = true) →
        step s = .next { s.sampleLines with inInt := true, ic := 62#17 })

/-- While IF = 1 no request is taken; a request still present after RETI is taken then. In an interrupt routine a step
never is an entry, whatever EF and the lines are: it fetches and runs. After a RETI, if EF is 1 and INT0, INT1 or AE
requests, the next step is an entry. [R324] -/
def Obligations.NoNestedInterrupt : Prop :=
  (∀ s : State, s.inInt = true → step s = s.sampleLines.fetchInstr.andThen exec) ∧
    ∀ (s t : State) (m : BitVec 7), exec (.reti m) s = .next t → t.ef = true →
      (t.sampleLines.lines.int0 = true ∨ t.sampleLines.lines.int1 = true ∨ t.accessError = true) →
      ∃ k, step t = .next (t.sampleLines.enterInterrupt k)

/-- Interrupt entry sets IF and IC = 32 + 2k and nothing else; the instruction at that address is fetched next. For k = 0
to 15 the vector is byte address 32 + 2k; entry(k) writes IF and IC and leaves every other field; the active counter
is then the vector. W is at least 9 (R24). [R318, R320] -/
def Obligations.InterruptEntryAndVectors : Prop :=
  (∀ k : BitVec 4, (vector k).toNat = 32 + 2 * k.toNat) ∧
    ∀ (s : State) (k : BitVec 4), 9 ≤ s.cfg.width →
      s.enterInterrupt k = { s with inInt := true, ic := BitVec.ofNat 17 (32 + 2 * k.toNat) } ∧
        (s.enterInterrupt k).cnt.toNat = 32 + 2 * k.toNat

/-- IF is set by interrupt entry and INT k and cleared by RETI only; what holds while it is 1. IF becomes 1 only by entry
or INT k and 0 only by RETI; it is no part of the flag or status byte; while it is 1 the active counter is IC, OF
counts as 0, no request is pending, INT k and every hard macro word are refused. The order IF before MF of the active
counter is decision D10 of the spec, the refusals while IF = 1 decision D39 (R325). [spec/10_state.md R40,
spec/60_exceptions.md R325, spec/92_eei_decisions.md D10, D39] -/
def Obligations.InInterruptBit : Prop :=
  (∀ (i : Instr) (s t : State), exec i s = .next t →
      (s.inInt = false → t.inInt = true → ∃ k, i.carried = .int k) ∧
        (s.inInt = true → t.inInt = false → ∃ m, i.carried = .reti m)) ∧
    (∀ (k : BitVec 4) (s t : State), exec (.int k) s = .next t → t.inInt = true) ∧
    (∀ (m : BitVec 7) (s t : State), exec (.reti m) s = .next t → t.inInt = false) ∧
    (∀ (s : State) (k : BitVec 4), (s.enterInterrupt k).inInt = true) ∧
    (∀ (s : State) (v : Bool), ({ s with inInt := v } : State).flagByte = s.flagByte ∧
      ({ s with inInt := v } : State).statusByte = s.statusByte) ∧
    ∀ s : State, s.inInt = true →
      s.cnt = s.ic ∧ s.effOF = 0#2 ∧ s.sampleLines.pendingInterrupt = none ∧
        (∀ k, exec (.int k) s = .refused .intInInterrupt) ∧ ∀ op xx, ∃ r, exec (.hardMacro op xx) s = .refused r

/-- The byte GETFLAG stores, loaded by RETI, restores every flag. In a state on the same core, loading the flag byte of s
gives the ZF, MF, OF and CF of s, and UF as it reads in s. R35 and R212 carry decisions of the spec (D11, D35).
[spec/10_state.md section 4, spec/41_imm_flags_store.md, spec/44_io_reti.md] -/
def Obligations.FlagByteRoundTrip : Prop :=
  ∀ s t : State, t.cfg = s.cfg →
    (t.loadAllFlags s.flagByte).zf = s.zf ∧ (t.loadAllFlags s.flagByte).mf = s.mf ∧
      (t.loadAllFlags s.flagByte).userMode = s.userMode ∧ (t.loadAllFlags s.flagByte).ofs = s.ofs ∧
        (t.loadAllFlags s.flagByte).cf = s.cf ∧ (t.loadAllFlags s.flagByte).flagByte = s.flagByte

/-- The data address of each operand form, OF counting as 0 in an interrupt routine. [m] is OF*128 + m (m alone while IF =
1), [A:B] is A*256 + B, [m:B] is m*256 + B, [A:C] is A*256 + C, [C] is C. The [C] address is a decision of the spec
(D33). [spec/30_encoding.md R84, spec/10_state.md section 4, spec/46_load_copy.md] -/
def Obligations.EffectiveAddresses : Prop :=
  ∀ (s : State) (m : BitVec 7),
    (s.ea (.direct m)).toNat = (if s.inInt then 0 else s.ofs.toNat * 128) + m.toNat ∧
      (s.ea .pointer).toNat = s.a.toNat * 256 + s.b.toNat ∧ (s.ea (.indexed m)).toNat = m.toNat * 256 + s.b.toNat ∧
        (s.ea .pageC).toNat = s.a.toNat * 256 + s.c.toNat ∧ (s.ea .zeroC).toNat = s.c.toNat

/-- Data reads and writes: restriction, mapping, PMEMACC, installed memory, the following instruction. DATA_BASE is 0 in
TINY, half the memory in HALF, and a quarter, an eighth or a sixteenth before its end in the other splits. A read or
write through [A:B], [m:B] or [A:C] below USER_LIMIT with UF = 1 sets AE, reads a free value, writes nothing; any
other access goes to DATA_BASE + address, or to the address itself while PA = 1, is refused at MEM_BYTES and above,
and a write into either byte of the next instruction is refused; under PA = 1 and UF = 1 writes are suppressed. These
are decisions D14, D15, D17, D19 and D31 of the spec. [spec/00_scope.md R5, spec/20_memory.md sections 4, 5 and 9,
spec/92_eei_decisions.md D14, D15, D17, D19, D31] -/
def Obligations.DataAccess : Prop :=
  (∀ (c : Config) (n : Nat), c.memBytes = 16 * n →
      (c.memModel = .tiny → c.dataBase = 0) ∧ (c.memModel = .half → c.dataBase = 8 * n) ∧
        (c.memModel = .quarter → c.dataBase = 12 * n) ∧ (c.memModel = .eighth → c.dataBase = 14 * n) ∧
          (c.memModel = .sixteenth → c.dataBase = 15 * n)) ∧
  ∀ (s : State) (o : Operand) (v : Byte),
    let p := if s.pa then (s.ea o).toNat else s.cfg.dataBase + (s.ea o).toNat
    let user := s.cfg.hasUserMode = true ∧ s.uf = true
    let limited := user ∧ (o = .pointer ∨ o = .pageC ∨ ∃ m, o = .indexed m) ∧ (s.ea o).toNat < s.cfg.userLimit
    (limited → s.dread o = .ok (Config.freeByte s.draws) { s with ae := true, draws := s.draws + 1 } ∧
        s.dwrite o v = .ok () { s with ae := true }) ∧
      (¬limited → s.cfg.memBytes ≤ p → s.dread o = .refused (.outsideMemory p)) ∧
      (¬limited → p < s.cfg.memBytes → s.dread o = .ok (s.mem.read p) s) ∧
      (¬limited → s.pa = true ∧ user → s.dwrite o v = .ok () s) ∧
      (¬limited → ¬(s.pa = true ∧ user) → s.cfg.memBytes ≤ p → s.dwrite o v = .refused (.outsideMemory p)) ∧
      (¬limited → ¬(s.pa = true ∧ user) → p < s.cfg.memBytes →
        (p = s.cnt.toNat ∨ p = (s.cfg.wrap (s.cnt + 1#17)).toNat) → s.dwrite o v = .refused (.storeIntoNext p)) ∧
      (¬limited → ¬(s.pa = true ∧ user) → p < s.cfg.memBytes → p ≠ s.cnt.toNat →
        p ≠ (s.cfg.wrap (s.cnt + 1#17)).toNat → s.dwrite o v = .ok () { s with mem := s.mem.set p v })

/-- A write to memory replaces one byte; overwriting and writes to two addresses agree as lists. In canonical form: a
write keeps the form, reads back at its address and changes no other byte; a second write to the address overrides the
first, and writes to two addresses commute, as lists. Two memories that read alike need not be equal lists: a byte
written with its power-on value stays listed (log entry 3). R65 carries a decision of the spec (D19).
[spec/20_memory.md sections 4 and 9] -/
def Obligations.MemoryIsAnArray : Prop :=
  ∀ (m : Memory) (p : Nat) (v : Byte), m.wf →
    (m.set p v).wf ∧ (∀ q, (m.set p v).read q = if q = p then v else m.read q) ∧
      (∀ w, (m.set p v).set p w = m.set p w) ∧ ∀ q w, q ≠ p → (m.set p v).set q w = (m.set q w).set p v

/-- Every step keeps the machine's invariant. From every state that meets Inv (allowed parameters; memory in canonical
form and inside the installed bytes; PC, MC and IC even and of W bits; TM = 0; UF and AE at 0 on a core without user
mode) a step that answers a next state answers one that meets Inv. R28, R29 and R333 carry marks of the spec.
[spec/10_state.md sections 3 and 5, spec/20_memory.md sections 2 and 4, spec/60_exceptions.md section 7] -/
def Obligations.StepKeepsInv : Prop :=
  ∀ s t : State, s.Inv → step s = .next t → t.Inv

/-- The machine after reset meets the invariant, with every allowed choice of parameters. State.reset meets Inv, and so
does the reset state of every core whose parameters R5 and R28 allow. Rests on the zeros of MC and IC that log entry 2
chooses. [spec/00_scope.md R5, spec/10_state.md section 9] -/
def Obligations.ResetInv : Prop :=
  State.reset.Inv ∧ ∀ c : Config, c.wf → (State.resetOf c).Inv

/-- After reset: PC = RESET_PC, control bits 0, nothing stored, fetching through PC. PC is RESET_PC and is the active
counter; MF, UF, OF, AE, TM, EF, IF and PA are 0; no memory byte is listed. The values are decision D1 of the spec.
[spec/10_state.md section 9, spec/92_eei_decisions.md D1] -/
def Obligations.ResetControlState : Prop :=
  ∀ c : Config,
    let s := State.resetOf c
    s.cfg = c ∧ s.pc = c.resetPc ∧ s.cnt = c.resetPc ∧ s.mf = false ∧ s.uf = false ∧ s.ofs = 0#2 ∧ s.ae = false ∧
      s.tm = false ∧ s.ef = false ∧ s.inInt = false ∧ s.pa = false ∧ s.mem = [] ∧ s.effOF = 0#2 ∧
        s.sampleLines.pendingInterrupt = none

/-- No step changes the parameters; the counter of free values never falls, and each draw moves it past its value. The
parameters are fixed for a run. No step lowers the counter of free values; a restricted read, a port input and a line
sample that draw the free value of the present count leave a higher count. The counter is the model's own field, the
free values of port inputs and lines the model's own choice (log entries 4 to 6). [spec/00_scope.md R5, R8,
spec/10_state.md section 10] -/
def Obligations.StepKeepsParameters : Prop :=
  (∀ s t : State, step s = .next t → t.cfg = s.cfg ∧ s.draws ≤ t.draws) ∧
    (∀ (s : State) (o : Operand), s.restricted o = true →
      ∃ t, s.dread o = .ok (Config.freeByte s.draws) t ∧ s.draws < t.draws) ∧
    (∀ (s : State) (port : Byte), s.portScript = [] →
      (s.portIn port).1 = Config.freePortByte s.draws ∧ s.draws < (s.portIn port).2.draws) ∧
    ∀ s : State, s.lineScript = [] →
      s.sampleLines.lines = ⟨Config.freeInt0 s.draws, Config.freeInt1 s.draws, Config.freeJsig121 s.draws⟩ ∧
        s.draws < s.sampleLines.draws

/-- EF is set by ENABLE, cleared by DISABLE, read by GETSTAT bit 7, and changed by nothing else. ENABLE and DISABLE write
EF; GETSTAT puts it in bit 7 of A; every other instruction, interrupt entry and RETI among them, leaves it; during a
routine IF masks every request whatever EF is. [R315] -/
def Obligations.EnableFlagWriters : Prop :=
  (∀ s t : State, exec .enable s = .next t → t.ef = true) ∧
    (∀ s t : State, exec .disable s = .next t → t.ef = false) ∧
    (∀ s t : State, exec .getstat s = .next t → t.a.getLsbD 7 = s.ef ∧ t.ef = s.ef) ∧
    (∀ (i : Instr) (s t : State), exec i s = .next t → i.carried ≠ .enable → i.carried ≠ .disable → t.ef = s.ef) ∧
    (∀ (s : State) (k : BitVec 4), (s.enterInterrupt k).ef = s.ef) ∧
    ∀ (s : State) (v : Bool), s.inInt = true → ({ s with ef := v } : State).pendingInterrupt = none

/-- AE is set by a restricted access only and cleared by CLEAR 1 only; TM never changes. An instruction that sets AE reads
or stores through an operand of its own that is restricted in its state; one that clears it is CLEAR 1; interrupt
entry leaves both bits; no step changes TM. R312 carries decisions of the spec (D14, D15, D28). [spec/10_state.md R39,
spec/60_exceptions.md sections 1 and 7] -/
def Obligations.AccessErrorSticky : Prop :=
  (∀ (i : Instr) (s t : State), exec i s = .next t →
      (s.ae = true → t.ae = false → i.carried = .clear1) ∧
        (s.ae = false → t.ae = true →
          ∃ o, (s.readOperand i = some o ∨ s.storeOperand i = some o) ∧ s.restricted o = true) ∧ t.tm = s.tm) ∧
    ∀ (s : State) (k : BitVec 4), (s.enterInterrupt k).ae = s.ae ∧ (s.enterInterrupt k).tm = s.tm

/-- A, B and C are changed only by the instructions that R22 lists as writing them. With the ordinary instruction a word
runs: A changes only if it is in R22's A row; B only if it is in the B row or the word is an opmsb word; C only if it
is in the C row or the word is a hard macro entry. R22 is marked derived in the spec. [spec/10_state.md section 1] -/
def Obligations.RegisterFrame : Prop :=
  ∀ (i : Instr) (s t : State), exec i s = .next t →
    (t.a ≠ s.a → (s.ordinary i).writesA = true) ∧
      (t.b ≠ s.b → (s.ordinary i).stepsOrWritesB = true ∨ ∃ mac op xx, i = .opmsb mac op xx) ∧
        (t.c ≠ s.c → (s.ordinary i).writesC = true ∨ ∃ op xx, i = .hardMacro op xx ∧ s.mf = false)

/-- Each flag is changed only by the instructions that R32 to R37 name for it. CF by the arithmetic and shift rows, CLC,
SETFLAG and RETI; ZF by the arithmetic and logic rows, SETFLAG and RETI; UF by USERMODE, SETFLAG and RETI; OF by
OFFSET, SETFLAG and RETI; MF by hard macro entry and end and RETI. R36 carries decision D2 of the spec.
[spec/10_state.md section 4] -/
def Obligations.FlagFrame : Prop :=
  ∀ (i : Instr) (s t : State), exec i s = .next t →
    (t.cf ≠ s.cf → (s.ordinary i).writesCF = true) ∧ (t.zf ≠ s.zf → (s.ordinary i).writesZF = true) ∧
      (t.uf ≠ s.uf → (s.ordinary i).writesUF = true) ∧ (t.ofs ≠ s.ofs → (s.ordinary i).writesOF = true) ∧
        (t.mf ≠ s.mf → (∃ m, i.carried = .reti m) ∨ (∃ op xx, i = .hardMacro op xx) ∨ ∃ op xx, i = .opmsb true op xx)

/-- Who writes each counter after the fetch. PC changes only by SETPC or a control transfer with IF = 0 and MF = 0; MC
only by SETMC, hard macro entry or a control transfer with IF = 0 and MF = 1; IC only by INT k or a control transfer
with IF = 1. R30 carries decision D10 of the spec. [spec/10_state.md section 3] -/
def Obligations.CounterFrame : Prop :=
  ∀ (i : Instr) (s t : State), exec i s = .next t →
    (t.pc ≠ s.pc → s.ordinary i = .setpc ∨ ((s.ordinary i).transfers = true ∧ s.inInt = false ∧ s.mf = false)) ∧
      (t.mc ≠ s.mc → s.ordinary i = .setmc ∨ (∃ op xx, i = .hardMacro op xx ∧ s.mf = false) ∨
        ((s.ordinary i).transfers = true ∧ s.inInt = false ∧ s.mf = true)) ∧
        (t.ic ≠ s.ic → (∃ k, s.ordinary i = .int k) ∨ ((s.ordinary i).transfers = true ∧ s.inInt = true))

/-- PA after an executed instruction: 1 after PMEMACC, 0 after every other. The next state of an instruction has PA = 1
exactly if the ordinary instruction it runs is PMEMACC; interrupt entry leaves PA. R41 carries decision D31 of the
spec; that INT k clears PA is log entry 12. [spec/10_state.md section 7, spec/60_exceptions.md section 5] -/
def Obligations.PendingBitFrame : Prop :=
  (∀ (i : Instr) (s t : State), exec i s = .next t → (t.pa = true ↔ s.ordinary i = .pmemacc)) ∧
    ∀ (s : State) (k : BitVec 4), (s.enterInterrupt k).pa = s.pa

/-- An instruction changes no byte of memory but the one its store operand addresses. In canonical memory: every byte
whose physical address is not that of the operand the instruction stores through (computed in the state before, as the
meaning does; none for an instruction that stores nothing) reads as before. R62 is marked derived in the spec.
[spec/20_memory.md sections 4 and 6] -/
def Obligations.MemoryFrame : Prop :=
  ∀ (i : Instr) (s t : State), s.mem.wf → exec i s = .next t →
    ∀ p : Nat, (∀ o, s.storeOperand i = some o → p ≠ s.phys (s.ea o)) → t.mem.read p = s.mem.read p

/-- Port events are only added, and only by the port instructions, on port C. The events before an instruction stay, in
order, before those it adds; an instruction other than INPUTA, OUTPUTB, INOUT, IN and OUT adds none and consumes no
port input; every added event is on the port that C held. R64 carries decision D24 of the spec. [spec/20_memory.md
section 8] -/
def Obligations.PortEventFrame : Prop :=
  ∀ (i : Instr) (s t : State), exec i s = .next t →
    (∃ new, t.events = s.events ++ new ∧ ∀ e ∈ new, ∃ v, e = .input s.c v ∨ e = .output s.c v) ∧
      ((s.ordinary i).usesPorts = false → t.events = s.events ∧ t.portScript = s.portScript)

/-- In user mode no instruction changes a byte from data address 511 up to USER_LIMIT. With UF = 1 an instruction of the
opcode table leaves every byte at data addresses 511 to USER_LIMIT - 1 as it was, under every memory model and with
PMEMACC pending or not: the direct form reaches at most 510, [C] at most 255, the pointer forms are suppressed. The
restriction is decisions D14 and D15 of the spec. [spec/20_memory.md section 5, spec/92_eei_decisions.md D14, D15,
D31] -/
def Obligations.UserModeCannotWriteProtected : Prop :=
  ∀ (i : Instr) (s t : State), i.wf = true → s.mem.wf → s.userMode = true → exec i s = .next t →
    ∀ p : Nat, s.cfg.dataBase + 511 ≤ p → p < s.cfg.dataBase + s.cfg.userLimit → t.mem.read p = s.mem.read p

/-- In user mode the bytes from data address 511 up to USER_LIMIT do not influence an instruction. With UF = 1 and no
PMEMACC pending, an instruction of the opcode table run on two memories that differ only at data addresses 511 to
USER_LIMIT - 1 has the same outcome but for those bytes: the key the source places there cannot be read. The
restriction is decisions D14 and D15 of the spec. [spec/20_memory.md section 5, spec/92_eei_decisions.md D14, D15] -/
def Obligations.UserModeCannotReadProtected : Prop :=
  ∀ (i : Instr) (s : State) (m : Memory), i.wf = true → s.mem.wf → m.wf → s.userMode = true → s.pa = false →
    AgreeOutside (s.cfg.dataBase + 511) (s.cfg.dataBase + s.cfg.userLimit) s.mem m →
    SameOutcomeOutside (s.cfg.dataBase + 511) (s.cfg.dataBase + s.cfg.userLimit) (exec i s) (exec i { s with mem := m })

/-- LD A,B; LD B,A; SWAP; LD B,C. The four register moves: their words, their effect on every state, and that nothing else
changes (PA is cleared as at the end of every instruction). [R102, R103, R104, R105] -/
def Obligations.RegisterMoves : Prop :=
  decode 0x0101#16 = .ldAB ∧ decode 0x0102#16 = .ldBA ∧ decode 0x0103#16 = .swap ∧ decode 0x0120#16 = .ldBC ∧
    Completes .ldAB (fun s => { s with a := s.b }) ∧ Completes .ldBA (fun s => { s with b := s.a }) ∧
      Completes .swap (fun s => { s with a := s.b, b := s.a }) ∧ Completes .ldBC fun s => { s with b := s.c }

/-- LD A,n; LD B,n; LD C,n. Each immediate load puts the operand byte, whatever its value, into its register, makes no
memory access and changes nothing else. [R141, R142, R144] -/
def Obligations.ImmediateLoads : Prop :=
  ∀ n : Byte, decode (wordAt 0x02 n.toNat) = .ldAN n ∧ decode (wordAt 0x03 n.toNat) = .ldBN n ∧
    decode (wordAt 0x04 n.toNat) = .ldCN n ∧ Completes (.ldAN n) (fun s => { s with a := n }) ∧
      Completes (.ldBN n) (fun s => { s with b := n }) ∧ Completes (.ldCN n) fun s => { s with c := n }

/-- OFFSET k; CLC; DISABLE; ENABLE, and the first boundary that can take an interrupt. OFFSET writes OF, whose value
addresses ignore while IF = 1, and xx 44h to 4Fh are reserved; CLC clears CF; DISABLE and ENABLE write EF and leave
AE; nothing else changes. With EF = 0 a boundary takes no interrupt; at the boundary after an ENABLE outside a routine
a request is taken, so that is the earliest point. The refusal of 44h to 4Fh is decision D22 of the spec.
[spec/40_nop_and_control.md R111, R119, R122, R123, spec/60_exceptions.md R316, spec/92_eei_decisions.md D22] -/
def Obligations.OffsetAndEnableBits : Prop :=
  (∀ k : BitVec 2, decode (wordAt 0x01 (0x40 + k.toNat)) = .offset k ∧ Completes (.offset k) fun s => { s with ofs := k }) ∧
    (∀ s : State, s.inInt = true → s.effOF = 0#2) ∧
    (∀ xx : Byte, 0x44 ≤ xx.toNat → xx.toNat ≤ 0x4F →
      Refuses (decode (wordAt 0x01 xx.toNat)) (.reservedEncoding 0x01#6 xx)) ∧
    decode 0x01C4#16 = .clc ∧ decode 0x01E0#16 = .disable ∧ decode 0x01E1#16 = .enable ∧
    Completes .clc (fun s => { s with cf := false }) ∧ Completes .disable (fun s => { s with ef := false }) ∧
      (Completes .enable fun s => { s with ef := true }) ∧
    (∀ s : State, s.ef = false → step s = s.sampleLines.fetchInstr.andThen exec) ∧
    ∀ s t : State, exec .enable s = .next t → s.inInt = false →
      (t.sampleLines.lines.int0 = true ∨ t.sampleLines.lines.int1 = true ∨ t.accessError = true) →
      ∃ k, step t = .next (t.sampleLines.enterInterrupt k)

/-- NOP; USERMODE k; GETSTAT; CLEAR 1. NOP with any operand byte changes nothing; USERMODE writes UF on a core with user
mode and nothing without; GETSTAT puts EF, TM and AE as they read into bits 7, 1 and 0 of A, zeros elsewhere, and
keeps AE; CLEAR 1 clears AE. Decisions D21, D26 and D35 of the spec. [spec/40_nop_and_control.md,
spec/92_eei_decisions.md D21, D26, D35] -/
def Obligations.ModeAndStatus : Prop :=
  (∀ xx, Completes (.nop xx) id) ∧
    (∀ k, Completes (.usermode k) fun s => if s.cfg.hasUserMode then { s with uf := decide (k = 1#1) } else s) ∧
    (Completes .getstat fun s =>
      { s with a := BitVec.ofNat 8 (128 * s.ef.toNat + 2 * s.tm.toNat + (s.cfg.hasUserMode && s.ae).toNat) }) ∧
      Completes .clear1 fun s => { s with ae := false }

/-- GETPC; GETMC; SETPC; SETMC. GETPC and GETMC move the register, halved when PC_XFER_SHIFT is 1, as a 16-bit number into
A:B; SETPC and SETMC write A:B, doubled when PC_XFER_SHIFT is 1, modulo 2^W; with PC_XFER_SHIFT 0 an odd A:B is
refused. Decisions D9, D10 and D18 of the spec. [spec/40_nop_and_control.md, spec/20_memory.md section 2,
spec/92_eei_decisions.md D9, D10, D18] -/
def Obligations.CounterTransfers : Prop :=
  (Completes .getpc fun s =>
      let v := if s.cfg.pcXferShift then s.pc.toNat / 2 else s.pc.toNat
      { s with a := BitVec.ofNat 8 (v / 256), b := BitVec.ofNat 8 v }) ∧
    (Completes .getmc fun s =>
      let v := if s.cfg.pcXferShift then s.mc.toNat / 2 else s.mc.toNat
      { s with a := BitVec.ofNat 8 (v / 256), b := BitVec.ofNat 8 v }) ∧
    (∀ s : State, s.cfg.pcXferShift = true →
      exec .setpc s = .next { s with pc := BitVec.ofNat 17 (2 * s.abNat % 2 ^ s.cfg.width), pa := false } ∧
        exec .setmc s = .next { s with mc := BitVec.ofNat 17 (2 * s.abNat % 2 ^ s.cfg.width), pa := false }) ∧
    (∀ s : State, s.cfg.pcXferShift = false → s.abNat % 2 = 0 →
      exec .setpc s = .next { s with pc := BitVec.ofNat 17 (s.abNat % 2 ^ s.cfg.width), pa := false } ∧
        exec .setmc s = .next { s with mc := BitVec.ofNat 17 (s.abNat % 2 ^ s.cfg.width), pa := false }) ∧
    ∀ s : State, s.cfg.pcXferShift = false → s.abNat % 2 = 1 →
      exec .setpc s = .refused (.oddCounter (BitVec.ofNat 17 s.abNat)) ∧
        exec .setmc s = .refused (.oddCounter (BitVec.ofNat 17 s.abNat))

/-- GETVER, GETID, CPUINFO and PMEMACC: their effect on a core that has them, refused on one that has not. With
HAS_INFO_REGS the three load their parameter into C; without it they are refused. With HAS_PMEMACC, PMEMACC sets PA
and leaves it set; without it it is refused. Decisions D27 and D31 of the spec. [spec/40_nop_and_control.md,
spec/92_eei_decisions.md D27, D31] -/
def Obligations.OptionalInstructions : Prop :=
  (∀ s : State, s.cfg.hasInfoRegs = true →
      exec .getver s = .next { s with c := s.cfg.version, pa := false } ∧
        exec .getid s = .next { s with c := s.cfg.ident, pa := false } ∧
          exec .cpuinfo s = .next { s with c := s.cfg.cpuInfo, pa := false }) ∧
    (∀ s : State, s.cfg.hasInfoRegs = false →
      exec .getver s = .refused .infoRegsAbsent ∧ exec .getid s = .refused .infoRegsAbsent ∧
        exec .cpuinfo s = .refused .infoRegsAbsent) ∧
    (∀ s : State, s.cfg.hasPmemacc = true → exec .pmemacc s = .next { s with pa := true }) ∧
    ∀ s : State, s.cfg.hasPmemacc = false → exec .pmemacc s = .refused .pmemaccAbsent

/-- INT k: IF <- 1 and IC <- 32 + 2k whatever EF is, PA <- 0 by the model's choice; refused while IF = 1. Outside an
interrupt routine INT k enters the routine at 32 + 2k, with EF 0 or 1, and changes nothing else but PA, which it
clears: that clause is the model's choice (log entry 12). Inside a routine it is refused (decision D39 of the spec). W
is at least 9 (R24). [spec/40_nop_and_control.md R121, spec/60_exceptions.md R318, R325, spec/92_eei_decisions.md D39] -/
def Obligations.SoftwareInterrupt : Prop :=
  ∀ k : BitVec 4, decode (wordAt 0x01 (0xD0 + k.toNat)) = .int k ∧
    (∀ s : State, 9 ≤ s.cfg.width → s.inInt = false →
      exec (.int k) s = .next { s with inInt := true, ic := BitVec.ofNat 17 (32 + 2 * k.toNat), pa := false }) ∧
    ∀ s : State, s.inInt = true → exec (.int k) s = .refused .intInInterrupt

/-- INPUTA, OUTPUTB, INOUT, IN and OUT. INPUTA takes the next port input into A; OUTPUTB puts out B; INOUT does both,
output first; IN writes the input through its operand, reading the port also where the write is suppressed; OUT puts
out the operand's byte, a free value where the read is restricted; each event is on port C. Decisions D14 and D24 of
the spec. [spec/40_nop_and_control.md, spec/44_io_reti.md, spec/20_memory.md section 8] -/
def Obligations.PortTransfers : Prop :=
  (Completes .inputa fun s => { s.afterInput s.c with a := s.nextInput }) ∧
    (Completes .outputb fun s => { s with events := s.events ++ [.output s.c s.b] }) ∧
    (Completes .inout fun s =>
      { State.afterInput { s with events := s.events ++ [.output s.c s.b] } s.c with a := s.nextInput }) ∧
    (AllForms .inD .inP .inX fun i o => ∀ s : State, s.writable o →
      exec i s = .next { (s.afterInput s.c).afterWrite o s.nextInput with pa := false }) ∧
      AllForms .outD .outP .outX fun i o => Reads i o fun s v t => { t with events := t.events ++ [.output s.c v] }

/-- GETFLAG and SETFLAG. GETFLAG stores the byte CF, 0, 0, OF, UF, MF, ZF. SETFLAG loads ZF, UF, OF and CF from the byte
and ignores bits 5 and 6; where bit 1 of the byte is not MF it is refused. Decisions D11 and D35 of the spec; the
refusal on the free byte of a restricted read is log entry 13. [spec/41_imm_flags_store.md, spec/92_eei_decisions.md
D11, D35] -/
def Obligations.FlagTransfers : Prop :=
  (AllForms .getflagD .getflagP .getflagX fun i o => Stores i o fun s =>
      BitVec.ofNat 8 (128 * s.cf.toNat + 8 * s.ofs.toNat + 4 * s.userMode.toNat + 2 * s.mf.toNat + s.zf.toNat)) ∧
    AllForms .setflagD .setflagP .setflagX fun i o => ∀ s : State, s.readable o →
      ((s.byteAt o).getLsbD 1 = s.mf → exec i s = .next { s.afterRead o with
        zf := (s.byteAt o).getLsbD 0
        uf := if s.cfg.hasUserMode then (s.byteAt o).getLsbD 2 else s.uf
        ofs := BitVec.ofNat 2 ((s.byteAt o).toNat / 8)
        cf := (s.byteAt o).getLsbD 7
        pa := false }) ∧
      ((s.byteAt o).getLsbD 1 ≠ s.mf → exec i s = .refused .setflagChangesMf)

/-- RETI m: every flag from data address m, IF <- 0; refused outside an interrupt routine. In a routine RETI reads the
byte at data address m itself (OF counts as 0), loads ZF, MF, UF, OF and CF, clears IF and leaves A, B, C, EF, AE and
the counters; the next fetch is through MC if the loaded MF is 1, else through PC. Outside a routine it is refused,
and inside one at a data address beyond the memory (R57, decision D17). UF is loaded only on a core with user mode
(decision D35, log entry 14). Decisions D11, D12 and D39 of the spec. [spec/44_io_reti.md, spec/60_exceptions.md R322,
spec/20_memory.md R57, spec/92_eei_decisions.md D11, D12, D17, D35, D39] -/
def Obligations.ReturnFromInterrupt : Prop :=
  ∀ (s : State) (m : BitVec 7),
    let p := if s.pa then m.toNat else s.cfg.dataBase + m.toNat
    let v := s.mem.read p
    (s.inInt = false → exec (.reti m) s = .refused .retiOutsideInterrupt) ∧
      (s.inInt = true → s.cfg.memBytes ≤ p → exec (.reti m) s = .refused (.outsideMemory p)) ∧
      (s.inInt = true → p < s.cfg.memBytes → ∃ t, exec (.reti m) s = .next t ∧
        t = { s with
          zf := v.getLsbD 0
          mf := v.getLsbD 1
          uf := if s.cfg.hasUserMode then v.getLsbD 2 else s.uf
          ofs := BitVec.ofNat 2 (v.toNat / 8)
          cf := v.getLsbD 7
          inInt := false
          pa := false } ∧
        t.cnt = if v.getLsbD 1 then s.mc else s.pc)

/-- ST [m],A and [m:B],A; ST [m],B; ST of C in three forms; ZERO at m:B. Each stores its byte (A, B, C or 00h) through its
operand and changes nothing else; the address of ZERO is m*256 + B (conflict C3). A restricted store sets AE and
stores nothing (decision D14 of the spec). [spec/41_imm_flags_store.md, spec/90_conflicts.md C3] -/
def Obligations.StoresOfRegisters : Prop :=
  (∀ m, Stores (.stAD m) (.direct m) fun s => s.a) ∧ (∀ m, Stores (.stAX m) (.indexed m) fun s => s.a) ∧
    (∀ m, Stores (.stBD m) (.direct m) fun s => s.b) ∧ (∀ m, Stores (.zeroX m) (.indexed m) fun _ => 0#8) ∧
      AllForms .stCD .stCP .stCX fun i o => Stores i o fun s => s.c

/-- SHL, SHR, SHLC and SHRC as doubling and halving with carry. SHL writes twice the byte, CF the bit above; SHR half, CF
the remainder; SHLC adds the old CF below, SHRC the old CF as 128; each modulo 256. ZF and all else stay. A restricted
access works on a free value (decision D14 of the spec). [spec/42_shift_logic_mem.md R160, R161, R165, R166] -/
def Obligations.MemoryShifts : Prop :=
  (AllForms .shlD .shlP .shlX fun i o => Modifies i o (fun _ v => BitVec.ofNat 8 (2 * v.toNat))
      fun _ v t => { t with cf := decide (128 ≤ v.toNat) }) ∧
    (AllForms .shrD .shrP .shrX fun i o => Modifies i o (fun _ v => BitVec.ofNat 8 (v.toNat / 2))
      fun _ v t => { t with cf := decide (v.toNat % 2 = 1) }) ∧
    (AllForms .shlcD .shlcP .shlcX fun i o => Modifies i o (fun s v => BitVec.ofNat 8 (2 * v.toNat + s.cf.toNat))
      fun _ v t => { t with cf := decide (128 ≤ v.toNat) }) ∧
      AllForms .shrcD .shrcP .shrcX fun i o => Modifies i o (fun s v => BitVec.ofNat 8 (v.toNat / 2 + 128 * s.cf.toNat))
        fun _ v t => { t with cf := decide (v.toNat % 2 = 1) }

/-- AND, XOR and OR with memory destination: A in [m] and [m:B], C in [A:B]; ZF of the result. Each writes the bitwise
result of the byte with A (forms [m], [m:B]) or C (form [A:B], conflict C2 for XOR) and sets ZF if it is 00h; CF and
all else stay. A restricted access works on a free value (decision D14 of the spec). [spec/42_shift_logic_mem.md R162,
R163, R164, spec/90_conflicts.md C2] -/
def Obligations.MemoryLogic : Prop :=
  let claim := fun (f : Byte → Byte → Byte) (r : State → Byte) (i : Instr) (o : Operand) =>
    Modifies i o (fun s v => f v (r s)) fun s v t => { t with zf := decide (f v (r s) = 0#8) }
  let forms := fun (f : Byte → Byte → Byte) (d : BitVec 7 → Instr) (p : Instr) (x : BitVec 7 → Instr) =>
    (∀ m, claim f (fun s => s.a) (d m) (.direct m)) ∧ claim f (fun s => s.c) p .pointer ∧
      ∀ m, claim f (fun s => s.a) (x m) (.indexed m)
  forms (· &&& ·) .andMemD .andMemP .andMemX ∧ forms (· ^^^ ·) .xorMemD .xorMemP .xorMemX ∧
    forms (· ||| ·) .orMemD .orMemP .orMemX

/-- JMP m, JMP A:B, JMP m:B and the four conditional jumps: targets and conditions. Targets are 2m (OF not added),
2*(A*256 + B) and 2*(m*256 + B), modulo 2^W, in the active counter; JMP 121 is not taken while the JSIG121 option is
on and the signal 0; the conditional forms test CF or ZF. Nothing else changes. Decisions D8, D10, D18 and D36 of the
spec. [spec/43_branch.md R181 to R187, R189] -/
def Obligations.Jumps : Prop :=
  (∀ m, Branches (.jmpM m) (fun s => !(decide (m = 121#7) && s.cfg.jsig121Enabled && !s.lines.jsig121)) fun _ => 2 * m.toNat) ∧
    (Branches .jmpC0 (fun s => !s.cf) fun s => 2 * s.abNat) ∧ (Branches .jmpC1 (fun s => s.cf) fun s => 2 * s.abNat) ∧
    (Branches .jmpZ0 (fun s => !s.zf) fun s => 2 * s.abNat) ∧ (Branches .jmpZ1 (fun s => s.zf) fun s => 2 * s.abNat) ∧
    (Branches .jmpP (fun _ => true) fun s => 2 * s.abNat) ∧
      ∀ m, Branches (.jmpX m) (fun _ => true) fun s => 2 * (m.toNat * 256 + s.b.toNat)

/-- The BAL family: the jump's target from the old A:B, and the link next/2 in A:B only if taken. As the jumps of OP 10; a
taken branch also writes the word address of the next instruction to A:B. Decisions D4, D8, D10, D18 and D36 of the
spec. [spec/43_branch.md R188, R191 to R197] -/
def Obligations.BranchAndLink : Prop :=
  (∀ m, Links (.balM m) (fun s => !(decide (m = 121#7) && s.cfg.jsig121Enabled && !s.lines.jsig121)) fun _ => 2 * m.toNat) ∧
    (Links .balC0 (fun s => !s.cf) fun s => 2 * s.abNat) ∧ (Links .balC1 (fun s => s.cf) fun s => 2 * s.abNat) ∧
    (Links .balZ0 (fun s => !s.zf) fun s => 2 * s.abNat) ∧ (Links .balZ1 (fun s => s.zf) fun s => 2 * s.abNat) ∧
    (Links .balP (fun _ => true) fun s => 2 * s.abNat) ∧
      ∀ m, Links (.balX m) (fun _ => true) fun s => 2 * (m.toNat * 256 + s.b.toNat)

/-- JR and BR and their conditional forms: target next + 2n, n signed, or B signed. The target is next + 2n modulo 2^W
with n the signed operand byte, or the signed B; the conditional forms test CF or ZF; the BR forms write the link
next/2 to A:B if taken, from the old B. Nothing else changes. Decisions D4, D7, D10 and D18 of the spec.
[spec/43_branch.md R190, R198 to R207] -/
def Obligations.RelativeJumpsAndCalls : Prop :=
  RelativeJump .jrFwd .jrB .jrBack (fun _ => true) ∧ RelativeJump .jrc0Fwd .jrc0B .jrc0Back (fun s => !s.cf) ∧
    RelativeJump .jrc1Fwd .jrc1B .jrc1Back (fun s => s.cf) ∧ RelativeJump .jrz0Fwd .jrz0B .jrz0Back (fun s => !s.zf) ∧
    RelativeJump .jrz1Fwd .jrz1B .jrz1Back (fun s => s.zf) ∧ RelativeCall .brFwd .brB .brBack (fun _ => true) ∧
    RelativeCall .brc0Fwd .brc0B .brc0Back (fun s => !s.cf) ∧ RelativeCall .brc1Fwd .brc1B .brc1Back (fun s => s.cf) ∧
    RelativeCall .brz0Fwd .brz0B .brz0Back (fun s => !s.zf) ∧ RelativeCall .brz1Fwd .brz1B .brz1Back (fun s => s.zf)

/-- INC, INCC, DEC and DECC: the exact sum or difference modulo 256, CF its carry or borrow, ZF of the result. The byte
becomes the byte plus 1, plus CF, minus 1 or minus CF, modulo 256; CF is the carry (sum above 255) or the borrow
(difference below 0); ZF says the result is 00h. All else stays. Decisions D2 and D3 and the general-knowledge marks
G1 and G2 of the spec. [spec/45_arith.md R220 to R222, R229, R230] -/
def Obligations.IncrementsAndDecrements : Prop :=
  (AllForms .incD .incP .incX fun i o => Modifies i o (fun _ v => BitVec.ofNat 8 (v.toNat + 1))
      fun _ v t => t.sumFlags (v.toNat + 1)) ∧
    (AllForms .inccD .inccP .inccX fun i o => Modifies i o (fun s v => BitVec.ofNat 8 (v.toNat + s.cf.toNat))
      fun s v t => t.sumFlags (v.toNat + s.cf.toNat)) ∧
    (AllForms .decD .decP .decX fun i o => Modifies i o (fun _ v => BitVec.ofInt 8 (v.toNat - 1))
      fun _ v t => t.diffFlags (v.toNat - 1)) ∧
      AllForms .deccD .deccP .deccX fun i o => Modifies i o (fun s v => BitVec.ofInt 8 (v.toNat - s.cf.toNat))
        fun s v t => t.diffFlags (v.toNat - s.cf.toNat)

/-- INCX, INCXC, DECX and DECXC: the byte stepped, A the byte before, B the old A. Memory and flags as INC, INCC, DEC and
DECC; A receives the byte before the operation and B the old A, the address using the old registers. Decisions D2, D3
and D23 of the spec. [spec/45_arith.md R223, R224, R231, R232] -/
def Obligations.ExchangingSteps : Prop :=
  (AllForms .incxD .incxP .incxX fun i o => Modifies i o (fun _ v => BitVec.ofNat 8 (v.toNat + 1))
      fun s v t => { t.sumFlags (v.toNat + 1) with a := v, b := s.a }) ∧
    (AllForms .incxcD .incxcP .incxcX fun i o => Modifies i o (fun s v => BitVec.ofNat 8 (v.toNat + s.cf.toNat))
      fun s v t => { t.sumFlags (v.toNat + s.cf.toNat) with a := v, b := s.a }) ∧
    (AllForms .decxD .decxP .decxX fun i o => Modifies i o (fun _ v => BitVec.ofInt 8 (v.toNat - 1))
      fun s v t => { t.diffFlags (v.toNat - 1) with a := v, b := s.a }) ∧
      AllForms .decxcD .decxcP .decxcX fun i o => Modifies i o (fun s v => BitVec.ofInt 8 (v.toNat - s.cf.toNat))
        fun s v t => { t.diffFlags (v.toNat - s.cf.toNat) with a := v, b := s.a }

/-- INCX lo, INCXC hi steps a 16-bit pointer in memory and leaves the old pointer in A:B; DECX, DECXC back. With lo and hi
two installed direct addresses, no PMEMACC pending and neither byte in the next instruction: the two instructions
complete, A:B holds the pointer before, and the two bytes in memory hold it plus 1 (minus 1 for DECX, DECXC) modulo
65536. R237 is marked derived in the spec. [spec/45_arith.md R237] -/
def Obligations.SixteenBitPointerSteps : Prop :=
  ∀ (s : State) (lo hi : BitVec 7), s.mem.wf → lo ≠ hi → s.pa = false →
    s.readable (.direct lo) → s.readable (.direct hi) → s.writable (.direct lo) → s.writable (.direct hi) →
    let pLo := s.phys (s.ea (.direct lo))
    let pHi := s.phys (s.ea (.direct hi))
    let old := (s.mem.read pHi).toNat * 256 + (s.mem.read pLo).toNat
    (∃ t u, exec (.incxD lo) s = .next t ∧ exec (.incxcD hi) t = .next u ∧ u.abNat = old ∧
        (u.mem.read pHi).toNat * 256 + (u.mem.read pLo).toNat = (old + 1) % 65536) ∧
      ∃ t u, exec (.decxD lo) s = .next t ∧ exec (.decxcD hi) t = .next u ∧ u.abNat = old ∧
        (u.mem.read pHi).toNat * 256 + (u.mem.read pLo).toNat = (old + 65535) % 65536

/-- ADD, ADDC, SUB and SUBC with memory destination: A in [m] and [m:B], C in [A:B]. The byte becomes the exact sum with,
or difference from, the register operand and the old CF where named, modulo 256; CF and ZF of it. All else stays.
Decisions D2 and D3 and the general-knowledge marks of the spec. [spec/45_arith.md R220, R225, R226, R233, R234] -/
def Obligations.AddSubtractMemory : Prop :=
  let adds := fun (r : State → Byte) (c : State → Nat) (i : Instr) (o : Operand) =>
    Modifies i o (fun s v => BitVec.ofNat 8 (v.toNat + (r s).toNat + c s))
      fun s v t => t.sumFlags (v.toNat + (r s).toNat + c s)
  let subs := fun (r : State → Byte) (c : State → Nat) (i : Instr) (o : Operand) =>
    Modifies i o (fun s v => BitVec.ofInt 8 (v.toNat - (r s).toNat - c s))
      fun s v t => t.diffFlags (v.toNat - (r s).toNat - c s)
  let forms := fun (claim : (State → Byte) → (State → Nat) → Instr → Operand → Prop) (c : State → Nat)
      (d : BitVec 7 → Instr) (p : Instr) (x : BitVec 7 → Instr) =>
    (∀ m, claim (fun s => s.a) c (d m) (.direct m)) ∧ claim (fun s => s.c) c p .pointer ∧
      ∀ m, claim (fun s => s.a) c (x m) (.indexed m)
  forms adds (fun _ => 0) .addMemD .addMemP .addMemX ∧ forms adds (fun s => s.cf.toNat) .addcMemD .addcMemP .addcMemX ∧
    forms subs (fun _ => 0) .subMemD .subMemP .subMemX ∧ forms subs (fun s => s.cf.toNat) .subcMemD .subcMemP .subcMemX

/-- ADD, ADDC, SUB and SUBC with destination A: the operand is [m], C or [m:B]; SUB takes A from the operand. A becomes
the exact sum of A and the operand, or the operand minus A, with the old CF where named, modulo 256; CF and ZF of it;
xx = 127 is register C and makes no memory access. All else stays. Decisions D2 and D3 and the general-knowledge marks
of the spec. [spec/45_arith.md R220, R227, R228, R235, R236] -/
def Obligations.AddSubtractAccumulator : Prop :=
  let sum := fun (c : State → Nat) (s : State) (v : Byte) (t : State) =>
    { t.sumFlags (s.a.toNat + v.toNat + c s) with a := BitVec.ofNat 8 (s.a.toNat + v.toNat + c s) }
  let diff := fun (c : State → Nat) (s : State) (v : Byte) (t : State) =>
    { t.diffFlags (v.toNat - s.a.toNat - c s) with a := BitVec.ofInt 8 (v.toNat - s.a.toNat - c s) }
  let forms := fun (k : State → Byte → State → State) (d : BitVec 7 → Instr) (p : Instr) (x : BitVec 7 → Instr) =>
    (∀ m, Reads (d m) (.direct m) k) ∧ (Completes p fun s => k s s.c s) ∧ ∀ m, Reads (x m) (.indexed m) k
  forms (sum fun _ => 0) .addAD .addAC .addAX ∧ forms (sum fun s => s.cf.toNat) .addcAD .addcAC .addcAX ∧
    forms (diff fun _ => 0) .subAD .subAC .subAX ∧ forms (diff fun s => s.cf.toNat) .subcAD .subcAC .subcAX

/-- LD A, LD B and LD C from memory in three forms. The register receives the operand's byte, addressed with the old
registers; no flag and nothing else changes; a restricted read sets AE and yields a free value (decision D14 of the
spec). [spec/46_load_copy.md R260, R261, R262] -/
def Obligations.LoadsOfRegisters : Prop :=
  (AllForms .ldAD .ldAP .ldAX fun i o => Reads i o fun _ v t => { t with a := v }) ∧
    (AllForms .ldBD .ldBP .ldBX fun i o => Reads i o fun _ v t => { t with b := v }) ∧
      AllForms .ldCD .ldCP .ldCX fun i o => Reads i o fun _ v t => { t with c := v }

/-- STACP, STAB, STAC, STABP and STZCP: one byte copied, B and C stepped modulo 256 where named. The byte at the source
operand goes to [A:C], [A:B] or [C], both addresses of the registers before; STACP and STZCP then add 1 to B and C,
STABP to B; nothing else changes. Decisions D14, D15 and D33 of the spec. [spec/46_load_copy.md R263 to R267] -/
def Obligations.CopiesInMemory : Prop :=
  let bump := fun (s t : State) => { t with b := BitVec.ofNat 8 (s.b.toNat + 1) }
  let bumpBoth := fun (s t : State) => { t with b := BitVec.ofNat 8 (s.b.toNat + 1), c := BitVec.ofNat 8 (s.c.toNat + 1) }
  (AllForms .stacpD .stacpP .stacpX fun i o => Copies i o .pageC bumpBoth) ∧
    (∀ m, Copies (.stabD m) (.direct m) .pointer fun _ t => t) ∧
    (∀ m, Copies (.stabX m) (.indexed m) .pointer fun _ t => t) ∧ (Copies .stac .pointer .pageC fun _ t => t) ∧
    (∀ m, Copies (.stabpD m) (.direct m) .pointer bump) ∧ (∀ m, Copies (.stabpX m) (.indexed m) .pointer bump) ∧
      Copies .stzcp .pointer .zeroC bumpBoth

/-- LOOPDEC, LOOPINC and WAIT: C = 0 falls through; else branch, C - 1, B moved by one. LOOPDEC n and LOOPINC n go to next
+ 2n, LOOPDEC 0 to itself, modulo 2^W, while C is not 0, with C - 1 and B - 1 or B + 1; with C = 0 nothing changes.
LOOPDEC B and LOOPINC B take the offset from the old signed B on a core that has them and are refused on one that has
not. Decisions D5, D6 and D7 of the spec. [spec/47_loop.md R280 to R283, R285, R288, spec/90_conflicts.md C4] -/
def Obligations.CountedLoops : Prop :=
  let byte := fun (n : Byte) (s : State) => (s.cnt.toNat : Int) + 2 * n.toInt
  (∀ n, CountsDown (.loopdecFwd n) (byte n) (-1)) ∧ (∀ n, CountsDown (.loopdecBack n) (byte n) (-1)) ∧
    (CountsDown .loopdecWait (fun s => s.cnt.toNat - 2) (-1)) ∧
    (∀ n, CountsDown (.loopincFwd n) (byte n) 1) ∧ (∀ n, CountsDown (.loopincBack n) (byte n) 1) ∧
    (∀ s : State, s.cfg.loopB = true →
      exec .loopdecB s =
          .next { (if s.c = 0#8 then s else (s.counted (-1)).branchTo (byte s.b s)) with pa := false } ∧
        exec .loopincB s =
          .next { (if s.c = 0#8 then s else (s.counted 1).branchTo (byte s.b s)) with pa := false }) ∧
    ∀ s : State, s.cfg.loopB = false →
      exec .loopdecB s = .refused .loopBAbsent ∧ exec .loopincB s = .refused .loopBAbsent

/-- LOOPSHRC, LOOPSHLC and LOOPZERO: with C = 0 nothing; else one unit of work at [A:B], C - 1, B moved, repeat. While C
is not 0 LOOPSHRC rotates [A:B] right through CF and steps B down, LOOPSHLC rotates it left and steps B up, LOOPZERO
clears it and steps B up; each counts C down and goes to itself. With C = 0 it goes on and touches no memory.
Decisions D5 and D6 of the spec. [spec/47_loop.md R284, R286, R287] -/
def Obligations.CompoundLoops : Prop :=
  (∀ s : State, s.c = 0#8 → exec .loopshrc s = .next { s with pa := false } ∧
      exec .loopshlc s = .next { s with pa := false } ∧ exec .loopzero s = .next { s with pa := false }) ∧
    ∀ s : State, s.c ≠ 0#8 → s.writable .pointer →
      exec .loopzero s = .next { ((s.afterWrite .pointer 0#8).counted 1).branchTo (s.cnt.toNat - 2) with pa := false } ∧
        (s.readable .pointer →
          let v := s.byteAt .pointer
          let right := (s.afterRead .pointer).afterWrite .pointer (BitVec.ofNat 8 (v.toNat / 2 + 128 * s.cf.toNat))
          let left := (s.afterRead .pointer).afterWrite .pointer (BitVec.ofNat 8 (2 * v.toNat + s.cf.toNat))
          exec .loopshrc s = .next { State.branchTo { right.counted (-1) with cf := decide (v.toNat % 2 = 1) }
              (s.cnt.toNat - 2) with pa := false } ∧
            exec .loopshlc s = .next { State.branchTo { left.counted 1 with cf := decide (128 ≤ v.toNat) }
              (s.cnt.toNat - 2) with pa := false })

/-- AND, XOR and OR on A with [m], C, [m:B] or an immediate; ZF of the result, CF unchanged. A becomes the bitwise result
with the operand, ZF says it is 00h, nothing else changes; xx = 127 is register C and makes no memory access.
Decisions D2 and D3 of the spec; ZF also for OR A,[m:B] by conflict C6. [spec/48_logic_a.md R290 to R296,
spec/90_conflicts.md C6] -/
def Obligations.LogicOnA : Prop :=
  let result := fun (f : Byte → Byte → Byte) (s : State) (v : Byte) (t : State) =>
    { t with a := f s.a v, zf := decide (f s.a v = 0#8) }
  let forms := fun (f : Byte → Byte → Byte) (d : BitVec 7 → Instr) (p : Instr) (x : BitVec 7 → Instr) (n : Byte → Instr) =>
    (∀ m, Reads (d m) (.direct m) (result f)) ∧ (Completes p fun s => result f s s.c s) ∧
      (∀ m, Reads (x m) (.indexed m) (result f)) ∧ ∀ v, Completes (n v) fun s => result f s v s
  forms (· &&& ·) .andAD .andAC .andAX .andAN ∧ forms (· ^^^ ·) .xorAD .xorAC .xorAX .xorAN ∧
    forms (· ||| ·) .orAD .orAC .orAX .orAN

/-- Hard macro entry: the parameter to data address OF*128 and to C, MC = op*16 + MACRO_BASE, MF <- 1. With MF = 0, IF = 0
and the direct address 0 writable, a macro word writes its operand byte there and to C, points MC at its entry modulo
2^W, sets MF and leaves PC, which holds the return address, and all else. Under MACRO_EXT a word with bit 13 clear is
refused. Decisions D31, D37 and D40 of the spec; the reading of MACRO_EXT is log entry 15. [spec/49_hard_macro.md
R301, spec/30_encoding.md R92] -/
def Obligations.MacroEntry : Prop :=
  (∀ (s : State) (op : BitVec 6) (xx : Byte), s.mf = false → s.inInt = false →
      (s.cfg.macroExt = false ∨ 32 ≤ op.toNat) → s.writable (.direct 0#7) →
      exec (.hardMacro op xx) s = .next { s.afterWrite (.direct 0#7) xx with
        mc := BitVec.ofNat 17 ((op.toNat * 16 + s.cfg.macroBase.toNat) % 2 ^ s.cfg.width)
        c := xx
        mf := true
        pa := false }) ∧
    ∀ (s : State) (op : BitVec 6) (xx : Byte), s.cfg.macroExt = true → op.toNat < 32 →
      exec (.hardMacro op xx) s = .refused .extendedOpcode

/-- The millicode end word runs its ordinary instruction, then MF <- 0; no control transfer, INT or RETI may end
millicode. With MF = 1 and IF = 0: an end word of OP 10 to 1B, 38, 39, 1F or INT k is refused; any other completes or
is refused exactly as the ordinary instruction does, and a completed one then has MF = 0. The plain return 4000h
completes in every such state. Decision D32 of the spec; the order of refusals is log entry 18. [spec/49_hard_macro.md
R302] -/
def Obligations.MacroEnd : Prop :=
  ∀ (s : State) (op : BitVec 6) (xx : Byte), s.mf = true → s.inInt = false → (s.cfg.macroExt = false ∨ 32 ≤ op.toNat) →
    let barred := (0x10 ≤ op.toNat ∧ op.toNat ≤ 0x1B) ∨ op.toNat = 0x1F ∨ op.toNat = 0x38 ∨ op.toNat = 0x39 ∨
      (op.toNat = 0x01 ∧ 0xD0 ≤ xx.toNat ∧ xx.toNat ≤ 0xDF)
    (barred → exec (.hardMacro op xx) s = .refused .endTransfersControl) ∧
      (¬barred → (∀ t, exec (decodeOp op xx) s = .next t → exec (.hardMacro op xx) s = .next { t with mf := false }) ∧
        ∀ r, exec (decodeOp op xx) s = .refused r → exec (.hardMacro op xx) s = .refused r) ∧
      (op.toNat = 0 → exec (.hardMacro op xx) s = .next { s with mf := false, pa := false })

/-- opmsb words: refused but in FAST mode, where the instruction runs with the old B, then B + 1. In modes NONE, DEBUG and
PARITY every word with bit 15 is refused. In FAST mode a word whose instruction writes B is refused as such, one whose
instruction steps B as such; any other ordinary word, and any other end word (bits 15 and 14 while MF = 1), completes
or is refused as it does without opmsb, and a completed one then adds 1 to B. A hard macro entry with opmsb is
refused, and under MACRO_EXT a word with bit 14 and not bit 13. NOP and ST [m:B],A complete so, as ordinary and as end
words. Decision D20 of the spec; log entries 15, 16 and 18. [spec/49_hard_macro.md R302, R305, R306,
spec/30_encoding.md R92, spec/92_eei_decisions.md D20] -/
def Obligations.OpmsbWords : Prop :=
  let next := fun (s : State) => BitVec.ofNat 8 (s.b.toNat + 1)
  (∀ (s : State) (mac : Bool) (op : BitVec 6) (xx : Byte),
      (s.cfg.opmsbMode = .none → exec (.opmsb mac op xx) s = .refused .opmsbWithoutRole) ∧
      (s.cfg.opmsbMode = .debug → exec (.opmsb mac op xx) s = .refused .opmsbDebugUndescribed) ∧
      (s.cfg.opmsbMode = .parity → exec (.opmsb mac op xx) s = .refused .parityRuleUnsupplied)) ∧
    (∀ (s : State) (op : BitVec 6) (xx : Byte), s.cfg.opmsbMode = .fast →
      ((decodeOp op xx).assignsB = true → exec (.opmsb false op xx) s = .refused .opmsbOnWriterOfB) ∧
      ((decodeOp op xx).stepsB = true → exec (.opmsb false op xx) s = .refused .opmsbOnStepperOfB) ∧
      ((decodeOp op xx).stepsOrWritesB = false →
        (∀ t, exec (decodeOp op xx) s = .next t → exec (.opmsb false op xx) s = .next { t with b := next s }) ∧
        ∀ r, exec (decodeOp op xx) s = .refused r → ∃ r', exec (.opmsb false op xx) s = .refused r')) ∧
    (∀ (s : State) (op : BitVec 6) (xx : Byte), s.cfg.opmsbMode = .fast → (s.cfg.macroExt = false ∨ 32 ≤ op.toNat) →
      (s.mf = false → exec (.opmsb true op xx) s = .refused .opmsbOnHardMacroEntry) ∧
      (s.mf = true →
        ((decodeOp op xx).assignsB = true → exec (.opmsb true op xx) s = .refused .opmsbOnWriterOfB) ∧
        ((decodeOp op xx).stepsB = true → exec (.opmsb true op xx) s = .refused .opmsbOnStepperOfB) ∧
        ((decodeOp op xx).stepsOrWritesB = false →
          (∀ t, exec (.hardMacro op xx) s = .next t → exec (.opmsb true op xx) s = .next { t with b := next s }) ∧
          ∀ r, exec (.hardMacro op xx) s = .refused r → ∃ r', exec (.opmsb true op xx) s = .refused r'))) ∧
    (∀ (s : State) (op : BitVec 6) (xx : Byte), s.cfg.opmsbMode = .fast → s.cfg.macroExt = true → op.toNat < 32 →
      exec (.opmsb true op xx) s = .refused .extendedOpcode) ∧
    (∀ (s : State) (xx : Byte), s.cfg.opmsbMode = .fast →
      exec (.opmsb false 0x00#6 xx) s = .next { s with b := next s, pa := false }) ∧
    (∀ (s : State) (m : BitVec 7), s.cfg.opmsbMode = .fast → s.writable (.indexed m) →
      exec (.opmsb false 0x06#6 (BitVec.ofNat 8 (128 + m.toNat))) s =
        .next { s.afterWrite (.indexed m) s.a with b := next s, pa := false }) ∧
    ∀ s : State, s.cfg.opmsbMode = .fast → s.cfg.macroExt = false → s.mf = true → s.inInt = false →
      (∀ xx, exec (.opmsb true 0x00#6 xx) s = .next { s with b := next s, mf := false, pa := false }) ∧
        ∀ m : BitVec 7, s.writable (.indexed m) →
          exec (.opmsb true 0x06#6 (BitVec.ofNat 8 (128 + m.toNat))) s =
            .next { s.afterWrite (.indexed m) s.a with b := next s, mf := false, pa := false }

/-- Every reserved, unused, undecided and unusable encoding is refused in every state, under its reason. The encodings
that R89 lists as without meaning are refused whatever the state is, as the spec tells the model (decisions D22 and
D26): the unlisted operand bytes of OP 01, CLEAR k for k other than 1, (LOAD), (SAVE), ROOPSHLC, ROOPSHRC, OP 0F and
1C, xx 7Eh of OP 10 and 11, xx 7Fh of OP 12 to 1B, xx 7Fh and above of OP 1F. [spec/30_encoding.md R89,
spec/92_eei_decisions.md D22, D26] -/
def Obligations.ReservedEncodingsRefused : Prop :=
  Refuses .rsv01At00 (.reservedEncoding 0x01#6 0x00#8) ∧
    (∀ xx, Refuses (.rsv01From04 xx) (.reservedEncoding 0x01#6 xx)) ∧
    Refuses .rsv01At23 (.reservedEncoding 0x01#6 0x23#8) ∧
    (∀ xx, Refuses (.rsv01From25 xx) (.reservedEncoding 0x01#6 xx)) ∧
    (∀ xx, Refuses (.rsv01From29 xx) (.reservedEncoding 0x01#6 xx)) ∧
    (∀ xx, Refuses (.rsv01From32 xx) (.reservedEncoding 0x01#6 xx)) ∧
    (∀ xx, Refuses (.rsv01From44 xx) (.reservedEncoding 0x01#6 xx)) ∧
    Refuses .rsv01At53 (.reservedEncoding 0x01#6 0x53#8) ∧
    (∀ xx, Refuses (.rsv01From55 xx) (.reservedEncoding 0x01#6 xx)) ∧
    (∀ xx, Refuses (.rsv01From59 xx) (.reservedEncoding 0x01#6 xx)) ∧
    (∀ xx, Refuses (.rsv01From70 xx) (.reservedEncoding 0x01#6 xx)) ∧
    Refuses .rsv01AtC3 (.reservedEncoding 0x01#6 0xC3#8) ∧
    (∀ xx, Refuses (.rsv01FromC5 xx) (.reservedEncoding 0x01#6 xx)) ∧
    (∀ xx, Refuses (.rsv01FromC9 xx) (.reservedEncoding 0x01#6 xx)) ∧
    (∀ xx, Refuses (.rsv01FromE2 xx) (.reservedEncoding 0x01#6 xx)) ∧
    (∀ xx, Refuses (.rsv01FromF4 xx) (.reservedEncoding 0x01#6 xx)) ∧
    Refuses .clear0 (.clearCauseUndefined 0#4) ∧
    (∀ k, Refuses (.clearK k) (.clearCauseUndefined k)) ∧
    Refuses .loadOpt (.optionUndescribed 0xC1#8) ∧
    Refuses .saveOpt (.optionUndescribed 0xC2#8) ∧
    Refuses .roopshlc (.undecidedInstruction 0x06#6) ∧
    Refuses .roopshrc (.undecidedInstruction 0x07#6) ∧
    (∀ xx, Refuses (.unused0F xx) (.unusedOpcode 0x0F#6)) ∧
    (∀ xx, Refuses (.unused1C xx) (.unusedOpcode 0x1C#6)) ∧
    Refuses .rsv10At7E (.reservedEncoding 0x10#6 0x7E#8) ∧
    Refuses .rsv11At7E (.reservedEncoding 0x11#6 0x7E#8) ∧
    Refuses .unusable12 (.unusableOffset 0x12#6) ∧
    Refuses .unusable13 (.unusableOffset 0x13#6) ∧
    Refuses .unusable14 (.unusableOffset 0x14#6) ∧
    Refuses .unusable15 (.unusableOffset 0x15#6) ∧
    Refuses .unusable16 (.unusableOffset 0x16#6) ∧
    Refuses .unusable17 (.unusableOffset 0x17#6) ∧
    Refuses .unusable18 (.unusableOffset 0x18#6) ∧
    Refuses .unusable19 (.unusableOffset 0x19#6) ∧
    Refuses .unusable1A (.unusableOffset 0x1A#6) ∧
    Refuses .unusable1B (.unusableOffset 0x1B#6) ∧
    Refuses .rsv1FAt7F (.reservedEncoding 0x1F#6 0x7F#8) ∧
    ∀ m : BitVec 7, Refuses (.rsv1FFrom80 m) (.reservedEncoding 0x1F#6 (BitVec.ofNat 8 (128 + m.toNat)))

end Statements
end

