-- ==== Sys2Proof/Laws/State.lean ====
section
/-! SUPPORT. The small lemmas of the state updates: for each named update, what every field reads after it. -/

namespace Sys2Proof.Machine

@[simp] theorem State.setPc_cfg (s : State) (t : Counter) : (s.setPc t).cfg = s.cfg := rfl
@[simp] theorem State.setPc_a (s : State) (t : Counter) : (s.setPc t).a = s.a := rfl
@[simp] theorem State.setPc_b (s : State) (t : Counter) : (s.setPc t).b = s.b := rfl
@[simp] theorem State.setPc_c (s : State) (t : Counter) : (s.setPc t).c = s.c := rfl
@[simp] theorem State.setPc_pc (s : State) (t : Counter) : (s.setPc t).pc = s.cfg.wrap t := rfl
@[simp] theorem State.setPc_mc (s : State) (t : Counter) : (s.setPc t).mc = s.mc := rfl
@[simp] theorem State.setPc_ic (s : State) (t : Counter) : (s.setPc t).ic = s.ic := rfl
@[simp] theorem State.setPc_zf (s : State) (t : Counter) : (s.setPc t).zf = s.zf := rfl
@[simp] theorem State.setPc_mf (s : State) (t : Counter) : (s.setPc t).mf = s.mf := rfl
@[simp] theorem State.setPc_uf (s : State) (t : Counter) : (s.setPc t).uf = s.uf := rfl
@[simp] theorem State.setPc_ofs (s : State) (t : Counter) : (s.setPc t).ofs = s.ofs := rfl
@[simp] theorem State.setPc_cf (s : State) (t : Counter) : (s.setPc t).cf = s.cf := rfl
@[simp] theorem State.setPc_ae (s : State) (t : Counter) : (s.setPc t).ae = s.ae := rfl
@[simp] theorem State.setPc_tm (s : State) (t : Counter) : (s.setPc t).tm = s.tm := rfl
@[simp] theorem State.setPc_ef (s : State) (t : Counter) : (s.setPc t).ef = s.ef := rfl
@[simp] theorem State.setPc_inInt (s : State) (t : Counter) : (s.setPc t).inInt = s.inInt := rfl
@[simp] theorem State.setPc_pa (s : State) (t : Counter) : (s.setPc t).pa = s.pa := rfl
@[simp] theorem State.setPc_mem (s : State) (t : Counter) : (s.setPc t).mem = s.mem := rfl
@[simp] theorem State.setPc_lines (s : State) (t : Counter) : (s.setPc t).lines = s.lines := rfl
@[simp] theorem State.setPc_lineScript (s : State) (t : Counter) : (s.setPc t).lineScript = s.lineScript := rfl
@[simp] theorem State.setPc_portScript (s : State) (t : Counter) : (s.setPc t).portScript = s.portScript := rfl
@[simp] theorem State.setPc_events (s : State) (t : Counter) : (s.setPc t).events = s.events := rfl
@[simp] theorem State.setPc_draws (s : State) (t : Counter) : (s.setPc t).draws = s.draws := rfl

@[simp] theorem State.setMc_cfg (s : State) (t : Counter) : (s.setMc t).cfg = s.cfg := rfl
@[simp] theorem State.setMc_a (s : State) (t : Counter) : (s.setMc t).a = s.a := rfl
@[simp] theorem State.setMc_b (s : State) (t : Counter) : (s.setMc t).b = s.b := rfl
@[simp] theorem State.setMc_c (s : State) (t : Counter) : (s.setMc t).c = s.c := rfl
@[simp] theorem State.setMc_pc (s : State) (t : Counter) : (s.setMc t).pc = s.pc := rfl
@[simp] theorem State.setMc_mc (s : State) (t : Counter) : (s.setMc t).mc = s.cfg.wrap t := rfl
@[simp] theorem State.setMc_ic (s : State) (t : Counter) : (s.setMc t).ic = s.ic := rfl
@[simp] theorem State.setMc_zf (s : State) (t : Counter) : (s.setMc t).zf = s.zf := rfl
@[simp] theorem State.setMc_mf (s : State) (t : Counter) : (s.setMc t).mf = s.mf := rfl
@[simp] theorem State.setMc_uf (s : State) (t : Counter) : (s.setMc t).uf = s.uf := rfl
@[simp] theorem State.setMc_ofs (s : State) (t : Counter) : (s.setMc t).ofs = s.ofs := rfl
@[simp] theorem State.setMc_cf (s : State) (t : Counter) : (s.setMc t).cf = s.cf := rfl
@[simp] theorem State.setMc_ae (s : State) (t : Counter) : (s.setMc t).ae = s.ae := rfl
@[simp] theorem State.setMc_tm (s : State) (t : Counter) : (s.setMc t).tm = s.tm := rfl
@[simp] theorem State.setMc_ef (s : State) (t : Counter) : (s.setMc t).ef = s.ef := rfl
@[simp] theorem State.setMc_inInt (s : State) (t : Counter) : (s.setMc t).inInt = s.inInt := rfl
@[simp] theorem State.setMc_pa (s : State) (t : Counter) : (s.setMc t).pa = s.pa := rfl
@[simp] theorem State.setMc_mem (s : State) (t : Counter) : (s.setMc t).mem = s.mem := rfl
@[simp] theorem State.setMc_lines (s : State) (t : Counter) : (s.setMc t).lines = s.lines := rfl
@[simp] theorem State.setMc_lineScript (s : State) (t : Counter) : (s.setMc t).lineScript = s.lineScript := rfl
@[simp] theorem State.setMc_portScript (s : State) (t : Counter) : (s.setMc t).portScript = s.portScript := rfl
@[simp] theorem State.setMc_events (s : State) (t : Counter) : (s.setMc t).events = s.events := rfl
@[simp] theorem State.setMc_draws (s : State) (t : Counter) : (s.setMc t).draws = s.draws := rfl

@[simp] theorem State.setIc_cfg (s : State) (t : Counter) : (s.setIc t).cfg = s.cfg := rfl
@[simp] theorem State.setIc_a (s : State) (t : Counter) : (s.setIc t).a = s.a := rfl
@[simp] theorem State.setIc_b (s : State) (t : Counter) : (s.setIc t).b = s.b := rfl
@[simp] theorem State.setIc_c (s : State) (t : Counter) : (s.setIc t).c = s.c := rfl
@[simp] theorem State.setIc_pc (s : State) (t : Counter) : (s.setIc t).pc = s.pc := rfl
@[simp] theorem State.setIc_mc (s : State) (t : Counter) : (s.setIc t).mc = s.mc := rfl
@[simp] theorem State.setIc_ic (s : State) (t : Counter) : (s.setIc t).ic = s.cfg.wrap t := rfl
@[simp] theorem State.setIc_zf (s : State) (t : Counter) : (s.setIc t).zf = s.zf := rfl
@[simp] theorem State.setIc_mf (s : State) (t : Counter) : (s.setIc t).mf = s.mf := rfl
@[simp] theorem State.setIc_uf (s : State) (t : Counter) : (s.setIc t).uf = s.uf := rfl
@[simp] theorem State.setIc_ofs (s : State) (t : Counter) : (s.setIc t).ofs = s.ofs := rfl
@[simp] theorem State.setIc_cf (s : State) (t : Counter) : (s.setIc t).cf = s.cf := rfl
@[simp] theorem State.setIc_ae (s : State) (t : Counter) : (s.setIc t).ae = s.ae := rfl
@[simp] theorem State.setIc_tm (s : State) (t : Counter) : (s.setIc t).tm = s.tm := rfl
@[simp] theorem State.setIc_ef (s : State) (t : Counter) : (s.setIc t).ef = s.ef := rfl
@[simp] theorem State.setIc_inInt (s : State) (t : Counter) : (s.setIc t).inInt = s.inInt := rfl
@[simp] theorem State.setIc_pa (s : State) (t : Counter) : (s.setIc t).pa = s.pa := rfl
@[simp] theorem State.setIc_mem (s : State) (t : Counter) : (s.setIc t).mem = s.mem := rfl
@[simp] theorem State.setIc_lines (s : State) (t : Counter) : (s.setIc t).lines = s.lines := rfl
@[simp] theorem State.setIc_lineScript (s : State) (t : Counter) : (s.setIc t).lineScript = s.lineScript := rfl
@[simp] theorem State.setIc_portScript (s : State) (t : Counter) : (s.setIc t).portScript = s.portScript := rfl
@[simp] theorem State.setIc_events (s : State) (t : Counter) : (s.setIc t).events = s.events := rfl
@[simp] theorem State.setIc_draws (s : State) (t : Counter) : (s.setIc t).draws = s.draws := rfl

@[simp] theorem State.setAB_cfg (s : State) (v : Addr) : (s.setAB v).cfg = s.cfg := rfl
@[simp] theorem State.setAB_a (s : State) (v : Addr) : (s.setAB v).a = highByte v := rfl
@[simp] theorem State.setAB_b (s : State) (v : Addr) : (s.setAB v).b = lowByte v := rfl
@[simp] theorem State.setAB_c (s : State) (v : Addr) : (s.setAB v).c = s.c := rfl
@[simp] theorem State.setAB_pc (s : State) (v : Addr) : (s.setAB v).pc = s.pc := rfl
@[simp] theorem State.setAB_mc (s : State) (v : Addr) : (s.setAB v).mc = s.mc := rfl
@[simp] theorem State.setAB_ic (s : State) (v : Addr) : (s.setAB v).ic = s.ic := rfl
@[simp] theorem State.setAB_zf (s : State) (v : Addr) : (s.setAB v).zf = s.zf := rfl
@[simp] theorem State.setAB_mf (s : State) (v : Addr) : (s.setAB v).mf = s.mf := rfl
@[simp] theorem State.setAB_uf (s : State) (v : Addr) : (s.setAB v).uf = s.uf := rfl
@[simp] theorem State.setAB_ofs (s : State) (v : Addr) : (s.setAB v).ofs = s.ofs := rfl
@[simp] theorem State.setAB_cf (s : State) (v : Addr) : (s.setAB v).cf = s.cf := rfl
@[simp] theorem State.setAB_ae (s : State) (v : Addr) : (s.setAB v).ae = s.ae := rfl
@[simp] theorem State.setAB_tm (s : State) (v : Addr) : (s.setAB v).tm = s.tm := rfl
@[simp] theorem State.setAB_ef (s : State) (v : Addr) : (s.setAB v).ef = s.ef := rfl
@[simp] theorem State.setAB_inInt (s : State) (v : Addr) : (s.setAB v).inInt = s.inInt := rfl
@[simp] theorem State.setAB_pa (s : State) (v : Addr) : (s.setAB v).pa = s.pa := rfl
@[simp] theorem State.setAB_mem (s : State) (v : Addr) : (s.setAB v).mem = s.mem := rfl
@[simp] theorem State.setAB_lines (s : State) (v : Addr) : (s.setAB v).lines = s.lines := rfl
@[simp] theorem State.setAB_lineScript (s : State) (v : Addr) : (s.setAB v).lineScript = s.lineScript := rfl
@[simp] theorem State.setAB_portScript (s : State) (v : Addr) : (s.setAB v).portScript = s.portScript := rfl
@[simp] theorem State.setAB_events (s : State) (v : Addr) : (s.setAB v).events = s.events := rfl
@[simp] theorem State.setAB_draws (s : State) (v : Addr) : (s.setAB v).draws = s.draws := rfl

@[simp] theorem State.raiseAE_cfg (s : State) : (s.raiseAE).cfg = s.cfg := rfl
@[simp] theorem State.raiseAE_a (s : State) : (s.raiseAE).a = s.a := rfl
@[simp] theorem State.raiseAE_b (s : State) : (s.raiseAE).b = s.b := rfl
@[simp] theorem State.raiseAE_c (s : State) : (s.raiseAE).c = s.c := rfl
@[simp] theorem State.raiseAE_pc (s : State) : (s.raiseAE).pc = s.pc := rfl
@[simp] theorem State.raiseAE_mc (s : State) : (s.raiseAE).mc = s.mc := rfl
@[simp] theorem State.raiseAE_ic (s : State) : (s.raiseAE).ic = s.ic := rfl
@[simp] theorem State.raiseAE_zf (s : State) : (s.raiseAE).zf = s.zf := rfl
@[simp] theorem State.raiseAE_mf (s : State) : (s.raiseAE).mf = s.mf := rfl
@[simp] theorem State.raiseAE_uf (s : State) : (s.raiseAE).uf = s.uf := rfl
@[simp] theorem State.raiseAE_ofs (s : State) : (s.raiseAE).ofs = s.ofs := rfl
@[simp] theorem State.raiseAE_cf (s : State) : (s.raiseAE).cf = s.cf := rfl
@[simp] theorem State.raiseAE_ae (s : State) : (s.raiseAE).ae = true := rfl
@[simp] theorem State.raiseAE_tm (s : State) : (s.raiseAE).tm = s.tm := rfl
@[simp] theorem State.raiseAE_ef (s : State) : (s.raiseAE).ef = s.ef := rfl
@[simp] theorem State.raiseAE_inInt (s : State) : (s.raiseAE).inInt = s.inInt := rfl
@[simp] theorem State.raiseAE_pa (s : State) : (s.raiseAE).pa = s.pa := rfl
@[simp] theorem State.raiseAE_mem (s : State) : (s.raiseAE).mem = s.mem := rfl
@[simp] theorem State.raiseAE_lines (s : State) : (s.raiseAE).lines = s.lines := rfl
@[simp] theorem State.raiseAE_lineScript (s : State) : (s.raiseAE).lineScript = s.lineScript := rfl
@[simp] theorem State.raiseAE_portScript (s : State) : (s.raiseAE).portScript = s.portScript := rfl
@[simp] theorem State.raiseAE_events (s : State) : (s.raiseAE).events = s.events := rfl
@[simp] theorem State.raiseAE_draws (s : State) : (s.raiseAE).draws = s.draws := rfl

@[simp] theorem State.setUF_cfg (s : State) (v : Bool) : (s.setUF v).cfg = s.cfg := rfl
@[simp] theorem State.setUF_a (s : State) (v : Bool) : (s.setUF v).a = s.a := rfl
@[simp] theorem State.setUF_b (s : State) (v : Bool) : (s.setUF v).b = s.b := rfl
@[simp] theorem State.setUF_c (s : State) (v : Bool) : (s.setUF v).c = s.c := rfl
@[simp] theorem State.setUF_pc (s : State) (v : Bool) : (s.setUF v).pc = s.pc := rfl
@[simp] theorem State.setUF_mc (s : State) (v : Bool) : (s.setUF v).mc = s.mc := rfl
@[simp] theorem State.setUF_ic (s : State) (v : Bool) : (s.setUF v).ic = s.ic := rfl
@[simp] theorem State.setUF_zf (s : State) (v : Bool) : (s.setUF v).zf = s.zf := rfl
@[simp] theorem State.setUF_mf (s : State) (v : Bool) : (s.setUF v).mf = s.mf := rfl
@[simp] theorem State.setUF_uf (s : State) (v : Bool) : (s.setUF v).uf = if s.cfg.hasUserMode then v else s.uf := rfl
@[simp] theorem State.setUF_ofs (s : State) (v : Bool) : (s.setUF v).ofs = s.ofs := rfl
@[simp] theorem State.setUF_cf (s : State) (v : Bool) : (s.setUF v).cf = s.cf := rfl
@[simp] theorem State.setUF_ae (s : State) (v : Bool) : (s.setUF v).ae = s.ae := rfl
@[simp] theorem State.setUF_tm (s : State) (v : Bool) : (s.setUF v).tm = s.tm := rfl
@[simp] theorem State.setUF_ef (s : State) (v : Bool) : (s.setUF v).ef = s.ef := rfl
@[simp] theorem State.setUF_inInt (s : State) (v : Bool) : (s.setUF v).inInt = s.inInt := rfl
@[simp] theorem State.setUF_pa (s : State) (v : Bool) : (s.setUF v).pa = s.pa := rfl
@[simp] theorem State.setUF_mem (s : State) (v : Bool) : (s.setUF v).mem = s.mem := rfl
@[simp] theorem State.setUF_lines (s : State) (v : Bool) : (s.setUF v).lines = s.lines := rfl
@[simp] theorem State.setUF_lineScript (s : State) (v : Bool) : (s.setUF v).lineScript = s.lineScript := rfl
@[simp] theorem State.setUF_portScript (s : State) (v : Bool) : (s.setUF v).portScript = s.portScript := rfl
@[simp] theorem State.setUF_events (s : State) (v : Bool) : (s.setUF v).events = s.events := rfl
@[simp] theorem State.setUF_draws (s : State) (v : Bool) : (s.setUF v).draws = s.draws := rfl

@[simp] theorem State.loadFlags_cfg (s : State) (v : Byte) : (s.loadFlags v).cfg = s.cfg := rfl
@[simp] theorem State.loadFlags_a (s : State) (v : Byte) : (s.loadFlags v).a = s.a := rfl
@[simp] theorem State.loadFlags_b (s : State) (v : Byte) : (s.loadFlags v).b = s.b := rfl
@[simp] theorem State.loadFlags_c (s : State) (v : Byte) : (s.loadFlags v).c = s.c := rfl
@[simp] theorem State.loadFlags_pc (s : State) (v : Byte) : (s.loadFlags v).pc = s.pc := rfl
@[simp] theorem State.loadFlags_mc (s : State) (v : Byte) : (s.loadFlags v).mc = s.mc := rfl
@[simp] theorem State.loadFlags_ic (s : State) (v : Byte) : (s.loadFlags v).ic = s.ic := rfl
@[simp] theorem State.loadFlags_zf (s : State) (v : Byte) : (s.loadFlags v).zf = v.getLsbD 0 := rfl
@[simp] theorem State.loadFlags_mf (s : State) (v : Byte) : (s.loadFlags v).mf = s.mf := rfl
@[simp] theorem State.loadFlags_uf (s : State) (v : Byte) : (s.loadFlags v).uf = if s.cfg.hasUserMode then v.getLsbD 2 else s.uf := rfl
@[simp] theorem State.loadFlags_ofs (s : State) (v : Byte) : (s.loadFlags v).ofs = v.extractLsb' 3 2 := rfl
@[simp] theorem State.loadFlags_cf (s : State) (v : Byte) : (s.loadFlags v).cf = v.getLsbD 7 := rfl
@[simp] theorem State.loadFlags_ae (s : State) (v : Byte) : (s.loadFlags v).ae = s.ae := rfl
@[simp] theorem State.loadFlags_tm (s : State) (v : Byte) : (s.loadFlags v).tm = s.tm := rfl
@[simp] theorem State.loadFlags_ef (s : State) (v : Byte) : (s.loadFlags v).ef = s.ef := rfl
@[simp] theorem State.loadFlags_inInt (s : State) (v : Byte) : (s.loadFlags v).inInt = s.inInt := rfl
@[simp] theorem State.loadFlags_pa (s : State) (v : Byte) : (s.loadFlags v).pa = s.pa := rfl
@[simp] theorem State.loadFlags_mem (s : State) (v : Byte) : (s.loadFlags v).mem = s.mem := rfl
@[simp] theorem State.loadFlags_lines (s : State) (v : Byte) : (s.loadFlags v).lines = s.lines := rfl
@[simp] theorem State.loadFlags_lineScript (s : State) (v : Byte) : (s.loadFlags v).lineScript = s.lineScript := rfl
@[simp] theorem State.loadFlags_portScript (s : State) (v : Byte) : (s.loadFlags v).portScript = s.portScript := rfl
@[simp] theorem State.loadFlags_events (s : State) (v : Byte) : (s.loadFlags v).events = s.events := rfl
@[simp] theorem State.loadFlags_draws (s : State) (v : Byte) : (s.loadFlags v).draws = s.draws := rfl

@[simp] theorem State.loadAllFlags_cfg (s : State) (v : Byte) : (s.loadAllFlags v).cfg = s.cfg := rfl
@[simp] theorem State.loadAllFlags_a (s : State) (v : Byte) : (s.loadAllFlags v).a = s.a := rfl
@[simp] theorem State.loadAllFlags_b (s : State) (v : Byte) : (s.loadAllFlags v).b = s.b := rfl
@[simp] theorem State.loadAllFlags_c (s : State) (v : Byte) : (s.loadAllFlags v).c = s.c := rfl
@[simp] theorem State.loadAllFlags_pc (s : State) (v : Byte) : (s.loadAllFlags v).pc = s.pc := rfl
@[simp] theorem State.loadAllFlags_mc (s : State) (v : Byte) : (s.loadAllFlags v).mc = s.mc := rfl
@[simp] theorem State.loadAllFlags_ic (s : State) (v : Byte) : (s.loadAllFlags v).ic = s.ic := rfl
@[simp] theorem State.loadAllFlags_zf (s : State) (v : Byte) : (s.loadAllFlags v).zf = v.getLsbD 0 := rfl
@[simp] theorem State.loadAllFlags_mf (s : State) (v : Byte) : (s.loadAllFlags v).mf = v.getLsbD 1 := rfl
@[simp] theorem State.loadAllFlags_uf (s : State) (v : Byte) : (s.loadAllFlags v).uf = if s.cfg.hasUserMode then v.getLsbD 2 else s.uf := rfl
@[simp] theorem State.loadAllFlags_ofs (s : State) (v : Byte) : (s.loadAllFlags v).ofs = v.extractLsb' 3 2 := rfl
@[simp] theorem State.loadAllFlags_cf (s : State) (v : Byte) : (s.loadAllFlags v).cf = v.getLsbD 7 := rfl
@[simp] theorem State.loadAllFlags_ae (s : State) (v : Byte) : (s.loadAllFlags v).ae = s.ae := rfl
@[simp] theorem State.loadAllFlags_tm (s : State) (v : Byte) : (s.loadAllFlags v).tm = s.tm := rfl
@[simp] theorem State.loadAllFlags_ef (s : State) (v : Byte) : (s.loadAllFlags v).ef = s.ef := rfl
@[simp] theorem State.loadAllFlags_inInt (s : State) (v : Byte) : (s.loadAllFlags v).inInt = s.inInt := rfl
@[simp] theorem State.loadAllFlags_pa (s : State) (v : Byte) : (s.loadAllFlags v).pa = s.pa := rfl
@[simp] theorem State.loadAllFlags_mem (s : State) (v : Byte) : (s.loadAllFlags v).mem = s.mem := rfl
@[simp] theorem State.loadAllFlags_lines (s : State) (v : Byte) : (s.loadAllFlags v).lines = s.lines := rfl
@[simp] theorem State.loadAllFlags_lineScript (s : State) (v : Byte) : (s.loadAllFlags v).lineScript = s.lineScript := rfl
@[simp] theorem State.loadAllFlags_portScript (s : State) (v : Byte) : (s.loadAllFlags v).portScript = s.portScript := rfl
@[simp] theorem State.loadAllFlags_events (s : State) (v : Byte) : (s.loadAllFlags v).events = s.events := rfl
@[simp] theorem State.loadAllFlags_draws (s : State) (v : Byte) : (s.loadAllFlags v).draws = s.draws := rfl

@[simp] theorem State.setZ_cfg (s : State) (r : Byte) : (s.setZ r).cfg = s.cfg := rfl
@[simp] theorem State.setZ_a (s : State) (r : Byte) : (s.setZ r).a = s.a := rfl
@[simp] theorem State.setZ_b (s : State) (r : Byte) : (s.setZ r).b = s.b := rfl
@[simp] theorem State.setZ_c (s : State) (r : Byte) : (s.setZ r).c = s.c := rfl
@[simp] theorem State.setZ_pc (s : State) (r : Byte) : (s.setZ r).pc = s.pc := rfl
@[simp] theorem State.setZ_mc (s : State) (r : Byte) : (s.setZ r).mc = s.mc := rfl
@[simp] theorem State.setZ_ic (s : State) (r : Byte) : (s.setZ r).ic = s.ic := rfl
@[simp] theorem State.setZ_zf (s : State) (r : Byte) : (s.setZ r).zf = decide (r = 0#8) := rfl
@[simp] theorem State.setZ_mf (s : State) (r : Byte) : (s.setZ r).mf = s.mf := rfl
@[simp] theorem State.setZ_uf (s : State) (r : Byte) : (s.setZ r).uf = s.uf := rfl
@[simp] theorem State.setZ_ofs (s : State) (r : Byte) : (s.setZ r).ofs = s.ofs := rfl
@[simp] theorem State.setZ_cf (s : State) (r : Byte) : (s.setZ r).cf = s.cf := rfl
@[simp] theorem State.setZ_ae (s : State) (r : Byte) : (s.setZ r).ae = s.ae := rfl
@[simp] theorem State.setZ_tm (s : State) (r : Byte) : (s.setZ r).tm = s.tm := rfl
@[simp] theorem State.setZ_ef (s : State) (r : Byte) : (s.setZ r).ef = s.ef := rfl
@[simp] theorem State.setZ_inInt (s : State) (r : Byte) : (s.setZ r).inInt = s.inInt := rfl
@[simp] theorem State.setZ_pa (s : State) (r : Byte) : (s.setZ r).pa = s.pa := rfl
@[simp] theorem State.setZ_mem (s : State) (r : Byte) : (s.setZ r).mem = s.mem := rfl
@[simp] theorem State.setZ_lines (s : State) (r : Byte) : (s.setZ r).lines = s.lines := rfl
@[simp] theorem State.setZ_lineScript (s : State) (r : Byte) : (s.setZ r).lineScript = s.lineScript := rfl
@[simp] theorem State.setZ_portScript (s : State) (r : Byte) : (s.setZ r).portScript = s.portScript := rfl
@[simp] theorem State.setZ_events (s : State) (r : Byte) : (s.setZ r).events = s.events := rfl
@[simp] theorem State.setZ_draws (s : State) (r : Byte) : (s.setZ r).draws = s.draws := rfl

@[simp] theorem State.setCZ_cfg (s : State) (r : Byte × Bool) : (s.setCZ r).cfg = s.cfg := rfl
@[simp] theorem State.setCZ_a (s : State) (r : Byte × Bool) : (s.setCZ r).a = s.a := rfl
@[simp] theorem State.setCZ_b (s : State) (r : Byte × Bool) : (s.setCZ r).b = s.b := rfl
@[simp] theorem State.setCZ_c (s : State) (r : Byte × Bool) : (s.setCZ r).c = s.c := rfl
@[simp] theorem State.setCZ_pc (s : State) (r : Byte × Bool) : (s.setCZ r).pc = s.pc := rfl
@[simp] theorem State.setCZ_mc (s : State) (r : Byte × Bool) : (s.setCZ r).mc = s.mc := rfl
@[simp] theorem State.setCZ_ic (s : State) (r : Byte × Bool) : (s.setCZ r).ic = s.ic := rfl
@[simp] theorem State.setCZ_zf (s : State) (r : Byte × Bool) : (s.setCZ r).zf = decide (r.1 = 0#8) := rfl
@[simp] theorem State.setCZ_mf (s : State) (r : Byte × Bool) : (s.setCZ r).mf = s.mf := rfl
@[simp] theorem State.setCZ_uf (s : State) (r : Byte × Bool) : (s.setCZ r).uf = s.uf := rfl
@[simp] theorem State.setCZ_ofs (s : State) (r : Byte × Bool) : (s.setCZ r).ofs = s.ofs := rfl
@[simp] theorem State.setCZ_cf (s : State) (r : Byte × Bool) : (s.setCZ r).cf = r.2 := rfl
@[simp] theorem State.setCZ_ae (s : State) (r : Byte × Bool) : (s.setCZ r).ae = s.ae := rfl
@[simp] theorem State.setCZ_tm (s : State) (r : Byte × Bool) : (s.setCZ r).tm = s.tm := rfl
@[simp] theorem State.setCZ_ef (s : State) (r : Byte × Bool) : (s.setCZ r).ef = s.ef := rfl
@[simp] theorem State.setCZ_inInt (s : State) (r : Byte × Bool) : (s.setCZ r).inInt = s.inInt := rfl
@[simp] theorem State.setCZ_pa (s : State) (r : Byte × Bool) : (s.setCZ r).pa = s.pa := rfl
@[simp] theorem State.setCZ_mem (s : State) (r : Byte × Bool) : (s.setCZ r).mem = s.mem := rfl
@[simp] theorem State.setCZ_lines (s : State) (r : Byte × Bool) : (s.setCZ r).lines = s.lines := rfl
@[simp] theorem State.setCZ_lineScript (s : State) (r : Byte × Bool) : (s.setCZ r).lineScript = s.lineScript := rfl
@[simp] theorem State.setCZ_portScript (s : State) (r : Byte × Bool) : (s.setCZ r).portScript = s.portScript := rfl
@[simp] theorem State.setCZ_events (s : State) (r : Byte × Bool) : (s.setCZ r).events = s.events := rfl
@[simp] theorem State.setCZ_draws (s : State) (r : Byte × Bool) : (s.setCZ r).draws = s.draws := rfl

@[simp] theorem State.enterInterrupt_cfg (s : State) (k : BitVec 4) : (s.enterInterrupt k).cfg = s.cfg := rfl
@[simp] theorem State.enterInterrupt_a (s : State) (k : BitVec 4) : (s.enterInterrupt k).a = s.a := rfl
@[simp] theorem State.enterInterrupt_b (s : State) (k : BitVec 4) : (s.enterInterrupt k).b = s.b := rfl
@[simp] theorem State.enterInterrupt_c (s : State) (k : BitVec 4) : (s.enterInterrupt k).c = s.c := rfl
@[simp] theorem State.enterInterrupt_pc (s : State) (k : BitVec 4) : (s.enterInterrupt k).pc = s.pc := rfl
@[simp] theorem State.enterInterrupt_mc (s : State) (k : BitVec 4) : (s.enterInterrupt k).mc = s.mc := rfl
@[simp] theorem State.enterInterrupt_ic (s : State) (k : BitVec 4) : (s.enterInterrupt k).ic = s.cfg.wrap (vector k) := rfl
@[simp] theorem State.enterInterrupt_zf (s : State) (k : BitVec 4) : (s.enterInterrupt k).zf = s.zf := rfl
@[simp] theorem State.enterInterrupt_mf (s : State) (k : BitVec 4) : (s.enterInterrupt k).mf = s.mf := rfl
@[simp] theorem State.enterInterrupt_uf (s : State) (k : BitVec 4) : (s.enterInterrupt k).uf = s.uf := rfl
@[simp] theorem State.enterInterrupt_ofs (s : State) (k : BitVec 4) : (s.enterInterrupt k).ofs = s.ofs := rfl
@[simp] theorem State.enterInterrupt_cf (s : State) (k : BitVec 4) : (s.enterInterrupt k).cf = s.cf := rfl
@[simp] theorem State.enterInterrupt_ae (s : State) (k : BitVec 4) : (s.enterInterrupt k).ae = s.ae := rfl
@[simp] theorem State.enterInterrupt_tm (s : State) (k : BitVec 4) : (s.enterInterrupt k).tm = s.tm := rfl
@[simp] theorem State.enterInterrupt_ef (s : State) (k : BitVec 4) : (s.enterInterrupt k).ef = s.ef := rfl
@[simp] theorem State.enterInterrupt_inInt (s : State) (k : BitVec 4) : (s.enterInterrupt k).inInt = true := rfl
@[simp] theorem State.enterInterrupt_pa (s : State) (k : BitVec 4) : (s.enterInterrupt k).pa = s.pa := rfl
@[simp] theorem State.enterInterrupt_mem (s : State) (k : BitVec 4) : (s.enterInterrupt k).mem = s.mem := rfl
@[simp] theorem State.enterInterrupt_lines (s : State) (k : BitVec 4) : (s.enterInterrupt k).lines = s.lines := rfl
@[simp] theorem State.enterInterrupt_lineScript (s : State) (k : BitVec 4) : (s.enterInterrupt k).lineScript = s.lineScript := rfl
@[simp] theorem State.enterInterrupt_portScript (s : State) (k : BitVec 4) : (s.enterInterrupt k).portScript = s.portScript := rfl
@[simp] theorem State.enterInterrupt_events (s : State) (k : BitVec 4) : (s.enterInterrupt k).events = s.events := rfl
@[simp] theorem State.enterInterrupt_draws (s : State) (k : BitVec 4) : (s.enterInterrupt k).draws = s.draws := rfl

@[simp] theorem State.leaveInterrupt_cfg (s : State) : (s.leaveInterrupt).cfg = s.cfg := rfl
@[simp] theorem State.leaveInterrupt_a (s : State) : (s.leaveInterrupt).a = s.a := rfl
@[simp] theorem State.leaveInterrupt_b (s : State) : (s.leaveInterrupt).b = s.b := rfl
@[simp] theorem State.leaveInterrupt_c (s : State) : (s.leaveInterrupt).c = s.c := rfl
@[simp] theorem State.leaveInterrupt_pc (s : State) : (s.leaveInterrupt).pc = s.pc := rfl
@[simp] theorem State.leaveInterrupt_mc (s : State) : (s.leaveInterrupt).mc = s.mc := rfl
@[simp] theorem State.leaveInterrupt_ic (s : State) : (s.leaveInterrupt).ic = s.ic := rfl
@[simp] theorem State.leaveInterrupt_zf (s : State) : (s.leaveInterrupt).zf = s.zf := rfl
@[simp] theorem State.leaveInterrupt_mf (s : State) : (s.leaveInterrupt).mf = s.mf := rfl
@[simp] theorem State.leaveInterrupt_uf (s : State) : (s.leaveInterrupt).uf = s.uf := rfl
@[simp] theorem State.leaveInterrupt_ofs (s : State) : (s.leaveInterrupt).ofs = s.ofs := rfl
@[simp] theorem State.leaveInterrupt_cf (s : State) : (s.leaveInterrupt).cf = s.cf := rfl
@[simp] theorem State.leaveInterrupt_ae (s : State) : (s.leaveInterrupt).ae = s.ae := rfl
@[simp] theorem State.leaveInterrupt_tm (s : State) : (s.leaveInterrupt).tm = s.tm := rfl
@[simp] theorem State.leaveInterrupt_ef (s : State) : (s.leaveInterrupt).ef = s.ef := rfl
@[simp] theorem State.leaveInterrupt_inInt (s : State) : (s.leaveInterrupt).inInt = false := rfl
@[simp] theorem State.leaveInterrupt_pa (s : State) : (s.leaveInterrupt).pa = s.pa := rfl
@[simp] theorem State.leaveInterrupt_mem (s : State) : (s.leaveInterrupt).mem = s.mem := rfl
@[simp] theorem State.leaveInterrupt_lines (s : State) : (s.leaveInterrupt).lines = s.lines := rfl
@[simp] theorem State.leaveInterrupt_lineScript (s : State) : (s.leaveInterrupt).lineScript = s.lineScript := rfl
@[simp] theorem State.leaveInterrupt_portScript (s : State) : (s.leaveInterrupt).portScript = s.portScript := rfl
@[simp] theorem State.leaveInterrupt_events (s : State) : (s.leaveInterrupt).events = s.events := rfl
@[simp] theorem State.leaveInterrupt_draws (s : State) : (s.leaveInterrupt).draws = s.draws := rfl

@[simp] theorem State.portOut_cfg (s : State) (p v : Byte) : (s.portOut p v).cfg = s.cfg := rfl
@[simp] theorem State.portOut_a (s : State) (p v : Byte) : (s.portOut p v).a = s.a := rfl
@[simp] theorem State.portOut_b (s : State) (p v : Byte) : (s.portOut p v).b = s.b := rfl
@[simp] theorem State.portOut_c (s : State) (p v : Byte) : (s.portOut p v).c = s.c := rfl
@[simp] theorem State.portOut_pc (s : State) (p v : Byte) : (s.portOut p v).pc = s.pc := rfl
@[simp] theorem State.portOut_mc (s : State) (p v : Byte) : (s.portOut p v).mc = s.mc := rfl
@[simp] theorem State.portOut_ic (s : State) (p v : Byte) : (s.portOut p v).ic = s.ic := rfl
@[simp] theorem State.portOut_zf (s : State) (p v : Byte) : (s.portOut p v).zf = s.zf := rfl
@[simp] theorem State.portOut_mf (s : State) (p v : Byte) : (s.portOut p v).mf = s.mf := rfl
@[simp] theorem State.portOut_uf (s : State) (p v : Byte) : (s.portOut p v).uf = s.uf := rfl
@[simp] theorem State.portOut_ofs (s : State) (p v : Byte) : (s.portOut p v).ofs = s.ofs := rfl
@[simp] theorem State.portOut_cf (s : State) (p v : Byte) : (s.portOut p v).cf = s.cf := rfl
@[simp] theorem State.portOut_ae (s : State) (p v : Byte) : (s.portOut p v).ae = s.ae := rfl
@[simp] theorem State.portOut_tm (s : State) (p v : Byte) : (s.portOut p v).tm = s.tm := rfl
@[simp] theorem State.portOut_ef (s : State) (p v : Byte) : (s.portOut p v).ef = s.ef := rfl
@[simp] theorem State.portOut_inInt (s : State) (p v : Byte) : (s.portOut p v).inInt = s.inInt := rfl
@[simp] theorem State.portOut_pa (s : State) (p v : Byte) : (s.portOut p v).pa = s.pa := rfl
@[simp] theorem State.portOut_mem (s : State) (p v : Byte) : (s.portOut p v).mem = s.mem := rfl
@[simp] theorem State.portOut_lines (s : State) (p v : Byte) : (s.portOut p v).lines = s.lines := rfl
@[simp] theorem State.portOut_lineScript (s : State) (p v : Byte) : (s.portOut p v).lineScript = s.lineScript := rfl
@[simp] theorem State.portOut_portScript (s : State) (p v : Byte) : (s.portOut p v).portScript = s.portScript := rfl
@[simp] theorem State.portOut_events (s : State) (p v : Byte) : (s.portOut p v).events = s.events ++ [.output p v] := rfl
@[simp] theorem State.portOut_draws (s : State) (p v : Byte) : (s.portOut p v).draws = s.draws := rfl

@[simp] theorem State.setCnt_cfg (s : State) (t : Counter) : (s.setCnt t).cfg = s.cfg := by
  unfold State.setCnt; split <;> (try split) <;> rfl
@[simp] theorem State.setCnt_a (s : State) (t : Counter) : (s.setCnt t).a = s.a := by
  unfold State.setCnt; split <;> (try split) <;> rfl
@[simp] theorem State.setCnt_b (s : State) (t : Counter) : (s.setCnt t).b = s.b := by
  unfold State.setCnt; split <;> (try split) <;> rfl
@[simp] theorem State.setCnt_c (s : State) (t : Counter) : (s.setCnt t).c = s.c := by
  unfold State.setCnt; split <;> (try split) <;> rfl
@[simp] theorem State.setCnt_pc (s : State) (t : Counter) : (s.setCnt t).pc = if s.inInt then s.pc else if s.mf then s.pc else s.cfg.wrap t := by
  unfold State.setCnt; split <;> (try split) <;> rfl
@[simp] theorem State.setCnt_mc (s : State) (t : Counter) : (s.setCnt t).mc = if s.inInt then s.mc else if s.mf then s.cfg.wrap t else s.mc := by
  unfold State.setCnt; split <;> (try split) <;> rfl
@[simp] theorem State.setCnt_ic (s : State) (t : Counter) : (s.setCnt t).ic = if s.inInt then s.cfg.wrap t else s.ic := by
  unfold State.setCnt; split <;> (try split) <;> rfl
@[simp] theorem State.setCnt_zf (s : State) (t : Counter) : (s.setCnt t).zf = s.zf := by
  unfold State.setCnt; split <;> (try split) <;> rfl
@[simp] theorem State.setCnt_mf (s : State) (t : Counter) : (s.setCnt t).mf = s.mf := by
  unfold State.setCnt; split <;> (try split) <;> rfl
@[simp] theorem State.setCnt_uf (s : State) (t : Counter) : (s.setCnt t).uf = s.uf := by
  unfold State.setCnt; split <;> (try split) <;> rfl
@[simp] theorem State.setCnt_ofs (s : State) (t : Counter) : (s.setCnt t).ofs = s.ofs := by
  unfold State.setCnt; split <;> (try split) <;> rfl
@[simp] theorem State.setCnt_cf (s : State) (t : Counter) : (s.setCnt t).cf = s.cf := by
  unfold State.setCnt; split <;> (try split) <;> rfl
@[simp] theorem State.setCnt_ae (s : State) (t : Counter) : (s.setCnt t).ae = s.ae := by
  unfold State.setCnt; split <;> (try split) <;> rfl
@[simp] theorem State.setCnt_tm (s : State) (t : Counter) : (s.setCnt t).tm = s.tm := by
  unfold State.setCnt; split <;> (try split) <;> rfl
@[simp] theorem State.setCnt_ef (s : State) (t : Counter) : (s.setCnt t).ef = s.ef := by
  unfold State.setCnt; split <;> (try split) <;> rfl
@[simp] theorem State.setCnt_inInt (s : State) (t : Counter) : (s.setCnt t).inInt = s.inInt := by
  unfold State.setCnt; split <;> (try split) <;> rfl
@[simp] theorem State.setCnt_pa (s : State) (t : Counter) : (s.setCnt t).pa = s.pa := by
  unfold State.setCnt; split <;> (try split) <;> rfl
@[simp] theorem State.setCnt_mem (s : State) (t : Counter) : (s.setCnt t).mem = s.mem := by
  unfold State.setCnt; split <;> (try split) <;> rfl
@[simp] theorem State.setCnt_lines (s : State) (t : Counter) : (s.setCnt t).lines = s.lines := by
  unfold State.setCnt; split <;> (try split) <;> rfl
@[simp] theorem State.setCnt_lineScript (s : State) (t : Counter) : (s.setCnt t).lineScript = s.lineScript := by
  unfold State.setCnt; split <;> (try split) <;> rfl
@[simp] theorem State.setCnt_portScript (s : State) (t : Counter) : (s.setCnt t).portScript = s.portScript := by
  unfold State.setCnt; split <;> (try split) <;> rfl
@[simp] theorem State.setCnt_events (s : State) (t : Counter) : (s.setCnt t).events = s.events := by
  unfold State.setCnt; split <;> (try split) <;> rfl
@[simp] theorem State.setCnt_draws (s : State) (t : Counter) : (s.setCnt t).draws = s.draws := by
  unfold State.setCnt; split <;> (try split) <;> rfl

@[simp] theorem State.portIn_cfg (s : State) (p : Byte) : (s.portIn p).2.cfg = s.cfg := by
  unfold State.portIn; split <;> rfl
@[simp] theorem State.portIn_a (s : State) (p : Byte) : (s.portIn p).2.a = s.a := by
  unfold State.portIn; split <;> rfl
@[simp] theorem State.portIn_b (s : State) (p : Byte) : (s.portIn p).2.b = s.b := by
  unfold State.portIn; split <;> rfl
@[simp] theorem State.portIn_c (s : State) (p : Byte) : (s.portIn p).2.c = s.c := by
  unfold State.portIn; split <;> rfl
@[simp] theorem State.portIn_pc (s : State) (p : Byte) : (s.portIn p).2.pc = s.pc := by
  unfold State.portIn; split <;> rfl
@[simp] theorem State.portIn_mc (s : State) (p : Byte) : (s.portIn p).2.mc = s.mc := by
  unfold State.portIn; split <;> rfl
@[simp] theorem State.portIn_ic (s : State) (p : Byte) : (s.portIn p).2.ic = s.ic := by
  unfold State.portIn; split <;> rfl
@[simp] theorem State.portIn_zf (s : State) (p : Byte) : (s.portIn p).2.zf = s.zf := by
  unfold State.portIn; split <;> rfl
@[simp] theorem State.portIn_mf (s : State) (p : Byte) : (s.portIn p).2.mf = s.mf := by
  unfold State.portIn; split <;> rfl
@[simp] theorem State.portIn_uf (s : State) (p : Byte) : (s.portIn p).2.uf = s.uf := by
  unfold State.portIn; split <;> rfl
@[simp] theorem State.portIn_ofs (s : State) (p : Byte) : (s.portIn p).2.ofs = s.ofs := by
  unfold State.portIn; split <;> rfl
@[simp] theorem State.portIn_cf (s : State) (p : Byte) : (s.portIn p).2.cf = s.cf := by
  unfold State.portIn; split <;> rfl
@[simp] theorem State.portIn_ae (s : State) (p : Byte) : (s.portIn p).2.ae = s.ae := by
  unfold State.portIn; split <;> rfl
@[simp] theorem State.portIn_tm (s : State) (p : Byte) : (s.portIn p).2.tm = s.tm := by
  unfold State.portIn; split <;> rfl
@[simp] theorem State.portIn_ef (s : State) (p : Byte) : (s.portIn p).2.ef = s.ef := by
  unfold State.portIn; split <;> rfl
@[simp] theorem State.portIn_inInt (s : State) (p : Byte) : (s.portIn p).2.inInt = s.inInt := by
  unfold State.portIn; split <;> rfl
@[simp] theorem State.portIn_pa (s : State) (p : Byte) : (s.portIn p).2.pa = s.pa := by
  unfold State.portIn; split <;> rfl
@[simp] theorem State.portIn_mem (s : State) (p : Byte) : (s.portIn p).2.mem = s.mem := by
  unfold State.portIn; split <;> rfl
@[simp] theorem State.portIn_lines (s : State) (p : Byte) : (s.portIn p).2.lines = s.lines := by
  unfold State.portIn; split <;> rfl
@[simp] theorem State.portIn_lineScript (s : State) (p : Byte) : (s.portIn p).2.lineScript = s.lineScript := by
  unfold State.portIn; split <;> rfl
@[simp] theorem State.portIn_events (s : State) (p : Byte) : (s.portIn p).2.events = s.events ++ [.input p (s.portIn p).1] := by
  unfold State.portIn; split <;> rfl

@[simp] theorem State.sampleLines_cfg (s : State) : (s.sampleLines).cfg = s.cfg := by
  unfold State.sampleLines; split <;> rfl
@[simp] theorem State.sampleLines_a (s : State) : (s.sampleLines).a = s.a := by
  unfold State.sampleLines; split <;> rfl
@[simp] theorem State.sampleLines_b (s : State) : (s.sampleLines).b = s.b := by
  unfold State.sampleLines; split <;> rfl
@[simp] theorem State.sampleLines_c (s : State) : (s.sampleLines).c = s.c := by
  unfold State.sampleLines; split <;> rfl
@[simp] theorem State.sampleLines_pc (s : State) : (s.sampleLines).pc = s.pc := by
  unfold State.sampleLines; split <;> rfl
@[simp] theorem State.sampleLines_mc (s : State) : (s.sampleLines).mc = s.mc := by
  unfold State.sampleLines; split <;> rfl
@[simp] theorem State.sampleLines_ic (s : State) : (s.sampleLines).ic = s.ic := by
  unfold State.sampleLines; split <;> rfl
@[simp] theorem State.sampleLines_zf (s : State) : (s.sampleLines).zf = s.zf := by
  unfold State.sampleLines; split <;> rfl
@[simp] theorem State.sampleLines_mf (s : State) : (s.sampleLines).mf = s.mf := by
  unfold State.sampleLines; split <;> rfl
@[simp] theorem State.sampleLines_uf (s : State) : (s.sampleLines).uf = s.uf := by
  unfold State.sampleLines; split <;> rfl
@[simp] theorem State.sampleLines_ofs (s : State) : (s.sampleLines).ofs = s.ofs := by
  unfold State.sampleLines; split <;> rfl
@[simp] theorem State.sampleLines_cf (s : State) : (s.sampleLines).cf = s.cf := by
  unfold State.sampleLines; split <;> rfl
@[simp] theorem State.sampleLines_ae (s : State) : (s.sampleLines).ae = s.ae := by
  unfold State.sampleLines; split <;> rfl
@[simp] theorem State.sampleLines_tm (s : State) : (s.sampleLines).tm = s.tm := by
  unfold State.sampleLines; split <;> rfl
@[simp] theorem State.sampleLines_ef (s : State) : (s.sampleLines).ef = s.ef := by
  unfold State.sampleLines; split <;> rfl
@[simp] theorem State.sampleLines_inInt (s : State) : (s.sampleLines).inInt = s.inInt := by
  unfold State.sampleLines; split <;> rfl
@[simp] theorem State.sampleLines_pa (s : State) : (s.sampleLines).pa = s.pa := by
  unfold State.sampleLines; split <;> rfl
@[simp] theorem State.sampleLines_mem (s : State) : (s.sampleLines).mem = s.mem := by
  unfold State.sampleLines; split <;> rfl
@[simp] theorem State.sampleLines_portScript (s : State) : (s.sampleLines).portScript = s.portScript := by
  unfold State.sampleLines; split <;> rfl
@[simp] theorem State.sampleLines_events (s : State) : (s.sampleLines).events = s.events := by
  unfold State.sampleLines; split <;> rfl

@[simp] theorem State.afterRead_cfg (s : State) (o : Operand) : (s.afterRead o).cfg = s.cfg := by
  unfold State.afterRead; split <;> simp_all
@[simp] theorem State.afterRead_a (s : State) (o : Operand) : (s.afterRead o).a = s.a := by
  unfold State.afterRead; split <;> simp_all
@[simp] theorem State.afterRead_b (s : State) (o : Operand) : (s.afterRead o).b = s.b := by
  unfold State.afterRead; split <;> simp_all
@[simp] theorem State.afterRead_c (s : State) (o : Operand) : (s.afterRead o).c = s.c := by
  unfold State.afterRead; split <;> simp_all
@[simp] theorem State.afterRead_pc (s : State) (o : Operand) : (s.afterRead o).pc = s.pc := by
  unfold State.afterRead; split <;> simp_all
@[simp] theorem State.afterRead_mc (s : State) (o : Operand) : (s.afterRead o).mc = s.mc := by
  unfold State.afterRead; split <;> simp_all
@[simp] theorem State.afterRead_ic (s : State) (o : Operand) : (s.afterRead o).ic = s.ic := by
  unfold State.afterRead; split <;> simp_all
@[simp] theorem State.afterRead_zf (s : State) (o : Operand) : (s.afterRead o).zf = s.zf := by
  unfold State.afterRead; split <;> simp_all
@[simp] theorem State.afterRead_mf (s : State) (o : Operand) : (s.afterRead o).mf = s.mf := by
  unfold State.afterRead; split <;> simp_all
@[simp] theorem State.afterRead_uf (s : State) (o : Operand) : (s.afterRead o).uf = s.uf := by
  unfold State.afterRead; split <;> simp_all
@[simp] theorem State.afterRead_ofs (s : State) (o : Operand) : (s.afterRead o).ofs = s.ofs := by
  unfold State.afterRead; split <;> simp_all
@[simp] theorem State.afterRead_cf (s : State) (o : Operand) : (s.afterRead o).cf = s.cf := by
  unfold State.afterRead; split <;> simp_all
@[simp] theorem State.afterRead_ae (s : State) (o : Operand) : (s.afterRead o).ae = s.restricted o || s.ae := by
  unfold State.afterRead; split <;> simp_all
@[simp] theorem State.afterRead_tm (s : State) (o : Operand) : (s.afterRead o).tm = s.tm := by
  unfold State.afterRead; split <;> simp_all
@[simp] theorem State.afterRead_ef (s : State) (o : Operand) : (s.afterRead o).ef = s.ef := by
  unfold State.afterRead; split <;> simp_all
@[simp] theorem State.afterRead_inInt (s : State) (o : Operand) : (s.afterRead o).inInt = s.inInt := by
  unfold State.afterRead; split <;> simp_all
@[simp] theorem State.afterRead_pa (s : State) (o : Operand) : (s.afterRead o).pa = s.pa := by
  unfold State.afterRead; split <;> simp_all
@[simp] theorem State.afterRead_mem (s : State) (o : Operand) : (s.afterRead o).mem = s.mem := by
  unfold State.afterRead; split <;> simp_all
@[simp] theorem State.afterRead_lines (s : State) (o : Operand) : (s.afterRead o).lines = s.lines := by
  unfold State.afterRead; split <;> simp_all
@[simp] theorem State.afterRead_lineScript (s : State) (o : Operand) : (s.afterRead o).lineScript = s.lineScript := by
  unfold State.afterRead; split <;> simp_all
@[simp] theorem State.afterRead_portScript (s : State) (o : Operand) : (s.afterRead o).portScript = s.portScript := by
  unfold State.afterRead; split <;> simp_all
@[simp] theorem State.afterRead_events (s : State) (o : Operand) : (s.afterRead o).events = s.events := by
  unfold State.afterRead; split <;> simp_all

@[simp] theorem State.afterWrite_cfg (s : State) (o : Operand) (v : Byte) : (s.afterWrite o v).cfg = s.cfg := by
  unfold State.afterWrite; split <;> (try split) <;> simp_all
@[simp] theorem State.afterWrite_a (s : State) (o : Operand) (v : Byte) : (s.afterWrite o v).a = s.a := by
  unfold State.afterWrite; split <;> (try split) <;> simp_all
@[simp] theorem State.afterWrite_b (s : State) (o : Operand) (v : Byte) : (s.afterWrite o v).b = s.b := by
  unfold State.afterWrite; split <;> (try split) <;> simp_all
@[simp] theorem State.afterWrite_c (s : State) (o : Operand) (v : Byte) : (s.afterWrite o v).c = s.c := by
  unfold State.afterWrite; split <;> (try split) <;> simp_all
@[simp] theorem State.afterWrite_pc (s : State) (o : Operand) (v : Byte) : (s.afterWrite o v).pc = s.pc := by
  unfold State.afterWrite; split <;> (try split) <;> simp_all
@[simp] theorem State.afterWrite_mc (s : State) (o : Operand) (v : Byte) : (s.afterWrite o v).mc = s.mc := by
  unfold State.afterWrite; split <;> (try split) <;> simp_all
@[simp] theorem State.afterWrite_ic (s : State) (o : Operand) (v : Byte) : (s.afterWrite o v).ic = s.ic := by
  unfold State.afterWrite; split <;> (try split) <;> simp_all
@[simp] theorem State.afterWrite_zf (s : State) (o : Operand) (v : Byte) : (s.afterWrite o v).zf = s.zf := by
  unfold State.afterWrite; split <;> (try split) <;> simp_all
@[simp] theorem State.afterWrite_mf (s : State) (o : Operand) (v : Byte) : (s.afterWrite o v).mf = s.mf := by
  unfold State.afterWrite; split <;> (try split) <;> simp_all
@[simp] theorem State.afterWrite_uf (s : State) (o : Operand) (v : Byte) : (s.afterWrite o v).uf = s.uf := by
  unfold State.afterWrite; split <;> (try split) <;> simp_all
@[simp] theorem State.afterWrite_ofs (s : State) (o : Operand) (v : Byte) : (s.afterWrite o v).ofs = s.ofs := by
  unfold State.afterWrite; split <;> (try split) <;> simp_all
@[simp] theorem State.afterWrite_cf (s : State) (o : Operand) (v : Byte) : (s.afterWrite o v).cf = s.cf := by
  unfold State.afterWrite; split <;> (try split) <;> simp_all
@[simp] theorem State.afterWrite_ae (s : State) (o : Operand) (v : Byte) : (s.afterWrite o v).ae = s.restricted o || s.ae := by
  unfold State.afterWrite; split <;> (try split) <;> simp_all
@[simp] theorem State.afterWrite_tm (s : State) (o : Operand) (v : Byte) : (s.afterWrite o v).tm = s.tm := by
  unfold State.afterWrite; split <;> (try split) <;> simp_all
@[simp] theorem State.afterWrite_ef (s : State) (o : Operand) (v : Byte) : (s.afterWrite o v).ef = s.ef := by
  unfold State.afterWrite; split <;> (try split) <;> simp_all
@[simp] theorem State.afterWrite_inInt (s : State) (o : Operand) (v : Byte) : (s.afterWrite o v).inInt = s.inInt := by
  unfold State.afterWrite; split <;> (try split) <;> simp_all
@[simp] theorem State.afterWrite_pa (s : State) (o : Operand) (v : Byte) : (s.afterWrite o v).pa = s.pa := by
  unfold State.afterWrite; split <;> (try split) <;> simp_all
@[simp] theorem State.afterWrite_lines (s : State) (o : Operand) (v : Byte) : (s.afterWrite o v).lines = s.lines := by
  unfold State.afterWrite; split <;> (try split) <;> simp_all
@[simp] theorem State.afterWrite_lineScript (s : State) (o : Operand) (v : Byte) : (s.afterWrite o v).lineScript = s.lineScript := by
  unfold State.afterWrite; split <;> (try split) <;> simp_all
@[simp] theorem State.afterWrite_portScript (s : State) (o : Operand) (v : Byte) : (s.afterWrite o v).portScript = s.portScript := by
  unfold State.afterWrite; split <;> (try split) <;> simp_all
@[simp] theorem State.afterWrite_events (s : State) (o : Operand) (v : Byte) : (s.afterWrite o v).events = s.events := by
  unfold State.afterWrite; split <;> (try split) <;> simp_all
@[simp] theorem State.afterWrite_draws (s : State) (o : Operand) (v : Byte) : (s.afterWrite o v).draws = s.draws := by
  unfold State.afterWrite; split <;> (try split) <;> simp_all

/-- The active counter depends on IF, MF and the counters only. -/
theorem State.cnt_congr {s t : State} (hi : t.inInt = s.inInt) (hm : t.mf = s.mf) (hp : t.pc = s.pc) (hc : t.mc = s.mc)
    (hx : t.ic = s.ic) : t.cnt = s.cnt := by
  simp [State.cnt, hi, hm, hp, hc, hx]

/-- The address, the restriction and the physical address of an operand survive a read. -/
@[simp] theorem State.afterRead_ea (s : State) (r o : Operand) : (s.afterRead r).ea o = s.ea o := by
  cases o <;> simp [State.ea, State.effOF]

@[simp] theorem State.afterRead_restricted (s : State) (r o : Operand) :
    (s.afterRead r).restricted o = s.restricted o := by
  simp [State.restricted, State.userMode]

@[simp] theorem State.afterRead_phys (s : State) (r : Operand) (x : Addr) : (s.afterRead r).phys x = s.phys x := by
  simp [State.phys]

@[simp] theorem State.afterRead_userMode (s : State) (r : Operand) : (s.afterRead r).userMode = s.userMode := by
  simp [State.userMode]

@[simp] theorem State.afterRead_cnt (s : State) (r : Operand) : (s.afterRead r).cnt = s.cnt := by
  simp [State.cnt]

@[simp] theorem State.afterRead_hitsNext (s : State) (r : Operand) (p : Nat) :
    (s.afterRead r).hitsNext p = s.hitsNext p := by
  simp [State.hitsNext]

/-- Writing the active counter is read back wrapped to `W` bits (R27, R29). -/
theorem State.cnt_setCnt (s : State) (t : Counter) : (s.setCnt t).cnt = s.cfg.wrap t := by
  simp only [State.cnt, State.setCnt_inInt, State.setCnt_mf, State.setCnt_pc, State.setCnt_mc, State.setCnt_ic]
  cases s.inInt <;> cases s.mf <;> rfl

end Sys2Proof.Machine
end

