-- ==== Sys2Proof/Laws/Memory.lean ====
section
/-! SUPPORT. The laws of memory: read after write, every other byte is left alone, the canonical form is kept (R56). -/

namespace Sys2Proof.Machine

/-- A listed byte is found at its address; below the first address of a rising list nothing is listed. -/
theorem Memory.get?_below {m : Memory} (p : Nat) (h : ∀ e ∈ m, p < e.1) : m.get? p = none := by
  cases m with
  | nil => rfl
  | cons e m =>
    have he := h e List.mem_cons_self
    simp [Memory.get?, Nat.ne_of_lt he, he]

/-- The byte just written is listed. -/
theorem Memory.get?_set_same (m : Memory) (p : Nat) (v : Byte) : (m.set p v).get? p = some v := by
  induction m with
  | nil => simp [Memory.set, Memory.get?]
  | cons e m ih =>
    obtain ⟨a, w⟩ := e
    simp only [Memory.set]
    split
    · simp [Memory.get?]
    · split
      · simp [Memory.get?]
      · simp [Memory.get?, *]

/-- A write leaves every other address as it was. -/
theorem Memory.get?_set_other {m : Memory} (hm : m.wf) {p q : Nat} (v : Byte) (h : q ≠ p) :
    (m.set p v).get? q = m.get? q := by
  induction m with
  | nil =>
    simp only [Memory.set, Memory.get?, if_neg h]
    split <;> rfl
  | cons e m ih =>
    obtain ⟨a, w⟩ := e
    obtain ⟨ha, hm⟩ := List.pairwise_cons.1 hm
    have hlow : ∀ e ∈ m, a < e.1 := fun e he => ha e.1 (List.mem_map_of_mem he)
    simp only [Memory.set]
    split
    · next hp =>
      subst hp
      simp [Memory.get?, h]
    · split
      · next hp hlt =>
        simp only [Memory.get?, if_neg h]
        split
        · rw [if_neg (by omega), if_pos (by omega)]
        · rfl
      · simp only [Memory.get?, ih hm]

/-- Read after write. -/
@[simp] theorem Memory.read_set_same (m : Memory) (p : Nat) (v : Byte) : (m.set p v).read p = v := by
  simp [Memory.read, Memory.get?_set_same]

/-- A write leaves every other byte as it was. -/
theorem Memory.read_set_other {m : Memory} (hm : m.wf) {p q : Nat} (v : Byte) (h : q ≠ p) :
    (m.set p v).read q = m.read q := by
  simp [Memory.read, Memory.get?_set_other hm v h]

/-- Every entry after a write is the written one or was there before. -/
theorem Memory.mem_set {m : Memory} {p : Nat} {v : Byte} {e : Host.Cell} (h : e ∈ m.set p v) : e = (p, v) ∨ e ∈ m := by
  induction m with
  | nil => simpa [Memory.set] using h
  | cons x m ih =>
    obtain ⟨a, w⟩ := x
    simp only [Memory.set] at h
    split at h
    · rcases List.mem_cons.1 h with h | h <;> simp [h]
    · split at h
      · rcases List.mem_cons.1 h with h | h <;> simp_all
      · rcases List.mem_cons.1 h with h | h
        · simp [h]
        · rcases ih h with h | h <;> simp [h]

/-- A write keeps the canonical form. -/
theorem Memory.set_wf {m : Memory} (hm : m.wf) (p : Nat) (v : Byte) : (m.set p v).wf := by
  induction m with
  | nil => simp [Memory.set, Memory.wf]
  | cons x m ih =>
    obtain ⟨a, w⟩ := x
    obtain ⟨ha, hm'⟩ := List.pairwise_cons.1 hm
    simp only [Memory.set]
    split
    · next hp =>
      subst hp
      exact hm
    · split
      · next hp hlt =>
        refine List.pairwise_cons.2 ⟨fun b hb => ?_, hm⟩
        rcases List.mem_cons.1 hb with hb | hb
        · simpa [hb] using hlt
        · exact Nat.lt_trans hlt (ha b hb)
      · next hp hlt =>
        refine List.pairwise_cons.2 ⟨fun b hb => ?_, ih hm'⟩
        obtain ⟨e, he, rfl⟩ := List.mem_map.1 hb
        rcases Memory.mem_set he with rfl | he
        · show a < p
          omega
        · exact ha _ (List.mem_map_of_mem he)

/-- Storing several bytes keeps the canonical form. -/
theorem Memory.setBytes_wf {m : Memory} (hm : m.wf) (p : Nat) (l : List Byte) : (m.setBytes p l).wf := by
  induction l generalizing m p with
  | nil => exact hm
  | cons v l ih => exact ih (Memory.set_wf hm p v) (p + 1)

/-- Reset memory has the canonical form: nothing is listed. -/
theorem reset_mem_wf : State.reset.mem.wf := List.Pairwise.nil

end Sys2Proof.Machine
end

