-- ==== Sys2Proof/Laws/Ops.lean ====
section
/-! SUPPORT. One lemma for each shared operation: what it answers and when. Proofs cite these and do not unfold the
operations. -/

namespace Sys2Proof.Machine

/-- A read that is carried out yields `byteAt` and leaves `afterRead` (R58). -/
theorem State.dread_of_readable {s : State} {o : Operand} (h : s.readable o) :
    s.dread o = .ok (s.byteAt o) (s.afterRead o) := by
  unfold State.dread State.byteAt State.afterRead
  by_cases hr : s.restricted o
  · simp [hr, State.raiseAE]
  · have hp := h.resolve_left hr
    simp [hr, Nat.not_le.2 hp]

/-- All a read can do: it is carried out, or it is refused outside the installed memory (R57, R58). -/
theorem State.dread_cases (s : State) (o : Operand) :
    (s.readable o ∧ s.dread o = .ok (s.byteAt o) (s.afterRead o)) ∨
      (¬ s.readable o ∧ s.dread o = .refused (.outsideMemory (s.phys (s.ea o)))) := by
  by_cases h : s.readable o
  · exact .inl ⟨h, State.dread_of_readable h⟩
  · refine .inr ⟨h, ?_⟩
    obtain ⟨hr, hp⟩ := not_or.1 h
    simp [State.dread, hr, Nat.not_lt.1 hp]

/-- A write that is carried out leaves `afterWrite` (R59). -/
theorem State.dwrite_of_writable {s : State} {o : Operand} (v : Byte) (h : s.writable o) :
    s.dwrite o v = .ok () (s.afterWrite o v) := by
  unfold State.dwrite State.afterWrite
  by_cases hr : s.restricted o
  · simp [hr, State.raiseAE]
  by_cases hp : s.pa && s.userMode
  · simp [hr, hp]
  · rcases h with h | h | ⟨hm, hn⟩
    · exact absurd h hr
    · simp [h.1, h.2] at hp
    · simp [hr, hp, Nat.not_le.2 hm, hn]

/-- All a write can do: it is carried out, or it stops outside the installed memory or at the following instruction
(R57, R59, R68). -/
theorem State.dwrite_cases (s : State) (o : Operand) (v : Byte) :
    (s.writable o ∧ s.dwrite o v = .ok () (s.afterWrite o v)) ∨
      (¬ s.writable o ∧ (s.dwrite o v = .refused (.outsideMemory (s.phys (s.ea o))) ∨
        s.dwrite o v = .refused (.storeIntoNext (s.phys (s.ea o))))) := by
  by_cases h : s.writable o
  · exact .inl ⟨h, State.dwrite_of_writable v h⟩
  · refine .inr ⟨h, ?_⟩
    obtain ⟨hr, h⟩ := not_or.1 h
    obtain ⟨hp, h⟩ := not_or.1 h
    have hp' : (s.pa && s.userMode) = false := by
      simpa using hp
    by_cases hm : s.phys (s.ea o) < s.cfg.memBytes
    · have hn : s.hitsNext (s.phys (s.ea o)) = true := by
        by_contra hc
        exact h ⟨hm, by simpa using hc⟩
      exact .inr (by simp [State.dwrite, hr, hp', Nat.not_le.2 hm, hn])
    · exact .inl (by simp [State.dwrite, hr, hp', Nat.not_lt.1 hm])

/-- A write survives a read before it: the two look at the same operands. -/
@[simp] theorem State.afterRead_writable (s : State) (r o : Operand) : (s.afterRead r).writable o ↔ s.writable o := by
  simp [State.writable]

/-- What follows an operation runs on its answer. -/
@[simp] theorem Res.andThen_ok {α : Type} (v : α) (s : State) (k) : (Res.ok v s).andThen k = k v s := rfl

@[simp] theorem Res.andThen_refused {α : Type} (r : Refusal) (k) : (Res.refused r : Res α).andThen k = .refused r := rfl

/-- An ended instruction has one next state. -/
@[simp] theorem finish_next {s t : State} : finish s = .next t ↔ t = { s with pa := false } := by
  simp [finish, eq_comm]

/-- A changed outcome is a next state only of a next state. -/
theorem mapNext_next {f : State → State} {o : Host.Outcome State Fault Refusal} {t : State} :
    mapNext f o = .next t ↔ ∃ u, o = .next u ∧ t = f u := by
  cases o <;> simp [mapNext, eq_comm]

/-- All `load` can answer as a next state. -/
theorem load_next {s : State} {o : Operand} {k : Byte → State → State} {t : State} :
    load s o k = .next t ↔ s.readable o ∧ t = { k (s.byteAt o) (s.afterRead o) with pa := false } := by
  rcases s.dread_cases o with ⟨h, e⟩ | ⟨h, e⟩ <;> simp [load, e, h]

/-- All `store` can answer as a next state. -/
theorem store_next {s : State} {o : Operand} {v : Byte} {t : State} :
    store s o v = .next t ↔ s.writable o ∧ t = { s.afterWrite o v with pa := false } := by
  rcases s.dwrite_cases o v with ⟨h, e⟩ | ⟨h, e | e⟩ <;> simp [store, e, h]

/-- All `modify` can answer as a next state. -/
theorem modify_next {s : State} {o : Operand} {f : Byte → Byte × Bool} {k : Byte → Byte × Bool → State → State}
    {t : State} :
    modify s o f k = .next t ↔ s.readable o ∧ s.writable o ∧
      t = { k (s.byteAt o) (f (s.byteAt o)) ((s.afterRead o).afterWrite o (f (s.byteAt o)).1) with pa := false } := by
  rcases s.dread_cases o with ⟨h, e⟩ | ⟨h, e⟩
  · rcases (s.afterRead o).dwrite_cases o (f (s.byteAt o)).1 with ⟨hw, ew⟩ | ⟨hw, ew | ew⟩ <;>
      simp [modify, e, ew, h] <;> simp_all
  · simp [modify, e, h]

/-- All `copy` can answer as a next state. -/
theorem copy_next {s : State} {src dst : Operand} {k : State → State} {t : State} :
    copy s src dst k = .next t ↔ s.readable src ∧ s.writable dst ∧
      t = { k ((s.afterRead src).afterWrite dst (s.byteAt src)) with pa := false } := by
  rcases s.dread_cases src with ⟨h, e⟩ | ⟨h, e⟩
  · rcases (s.afterRead src).dwrite_cases dst (s.byteAt src) with ⟨hw, ew⟩ | ⟨hw, ew | ew⟩ <;>
      simp [copy, e, ew, h] <;> simp_all
  · simp [copy, e, h]

/-- A fetch that answers: the counter was even, both bytes are installed, the counter is advanced (R26, R52, R54). -/
theorem State.fetch_ok {s t : State} {w : Byte × Byte} :
    s.fetch = .ok w t ↔ s.cnt.getLsbD 0 = false ∧ s.cnt.toNat < s.cfg.memBytes ∧
      (s.cfg.wrap (s.cnt + 1#17)).toNat < s.cfg.memBytes ∧
      w = (s.mem.read s.cnt.toNat, s.mem.read (s.cfg.wrap (s.cnt + 1#17)).toNat) ∧ t = s.setCnt (s.cnt + 2#17) := by
  unfold State.fetch
  simp only []
  split
  · simp_all
  · split
    · constructor
      · intro h
        cases h
      · rintro ⟨-, h, -⟩
        omega
    · split
      · constructor
        · intro h
          cases h
        · rintro ⟨-, -, h, -⟩
          omega
      · constructor
        · intro h
          cases h
          exact ⟨by simp_all, by omega, by omega, rfl, rfl⟩
        · rintro ⟨-, -, -, rfl, rfl⟩
          rfl

/-- All a step can answer as a next state: an interrupt entry, or the fetched instruction's own next state. -/
theorem step_next {s t : State} :
    step s = .next t ↔
      (∃ k, s.sampleLines.pendingInterrupt = some k ∧ t = s.sampleLines.enterInterrupt k) ∨
      (s.sampleLines.pendingInterrupt = none ∧
        ∃ i u, s.sampleLines.fetchInstr = .ok i u ∧ exec i u = .next t) := by
  unfold step
  cases hp : s.sampleLines.pendingInterrupt with
  | some k => simp [eq_comm]
  | none =>
    cases hf : s.sampleLines.fetchInstr with
    | ok i u => simp
    | refused r => simp

end Sys2Proof.Machine
end

