-- ==== Sys2Proof/Laws/Rows.lean ====
section
/-! SUPPORT. The opcode table a second time, as mask, match and operand range of each row, copied from
spec/opcode_table.json: the encoder's words are checked against it row by row in Laws/PerInstr.lean. -/

namespace Sys2Proof.Laws.RowTable

/-- One row: a word `w` belongs to it when `w AND mask = pattern` and its low byte lies in `lo .. hi`. -/
structure Row where
  mask : InstrWord
  pattern : InstrWord
  lo : Byte
  hi : Byte
  deriving DecidableEq, Repr

/-- The row of each constructor. -/
def row : Instr → Row
  | .nop _ => ⟨0xFF00#16, 0x0000#16, 0x00#8, 0xFF#8⟩
  | .rsv01At00 => ⟨0xFFFF#16, 0x0100#16, 0x00#8, 0x00#8⟩
  | .ldAB => ⟨0xFFFF#16, 0x0101#16, 0x01#8, 0x01#8⟩
  | .ldBA => ⟨0xFFFF#16, 0x0102#16, 0x02#8, 0x02#8⟩
  | .swap => ⟨0xFFFF#16, 0x0103#16, 0x03#8, 0x03#8⟩
  | .rsv01From04 _ => ⟨0xFF80#16, 0x0100#16, 0x04#8, 0x1F#8⟩
  | .ldBC => ⟨0xFFFF#16, 0x0120#16, 0x20#8, 0x20#8⟩
  | .getpc => ⟨0xFFFF#16, 0x0121#16, 0x21#8, 0x21#8⟩
  | .getmc => ⟨0xFFFF#16, 0x0122#16, 0x22#8, 0x22#8⟩
  | .rsv01At23 => ⟨0xFFFF#16, 0x0123#16, 0x23#8, 0x23#8⟩
  | .setpc => ⟨0xFFFF#16, 0x0124#16, 0x24#8, 0x24#8⟩
  | .rsv01From25 _ => ⟨0xFF80#16, 0x0100#16, 0x25#8, 0x27#8⟩
  | .setmc => ⟨0xFFFF#16, 0x0128#16, 0x28#8, 0x28#8⟩
  | .rsv01From29 _ => ⟨0xFF80#16, 0x0100#16, 0x29#8, 0x2F#8⟩
  | .usermode _ => ⟨0xFFFE#16, 0x0130#16, 0x30#8, 0x31#8⟩
  | .rsv01From32 _ => ⟨0xFF80#16, 0x0100#16, 0x32#8, 0x3F#8⟩
  | .offset _ => ⟨0xFFFC#16, 0x0140#16, 0x40#8, 0x43#8⟩
  | .rsv01From44 _ => ⟨0xFF80#16, 0x0100#16, 0x44#8, 0x50#8⟩
  | .getstat => ⟨0xFFFF#16, 0x0151#16, 0x51#8, 0x51#8⟩
  | .getver => ⟨0xFFFF#16, 0x0152#16, 0x52#8, 0x52#8⟩
  | .rsv01At53 => ⟨0xFFFF#16, 0x0153#16, 0x53#8, 0x53#8⟩
  | .getid => ⟨0xFFFF#16, 0x0154#16, 0x54#8, 0x54#8⟩
  | .rsv01From55 _ => ⟨0xFF80#16, 0x0100#16, 0x55#8, 0x57#8⟩
  | .cpuinfo => ⟨0xFFFF#16, 0x0158#16, 0x58#8, 0x58#8⟩
  | .rsv01From59 _ => ⟨0xFF80#16, 0x0100#16, 0x59#8, 0x5F#8⟩
  | .clear0 => ⟨0xFFFF#16, 0x0160#16, 0x60#8, 0x60#8⟩
  | .clear1 => ⟨0xFFFF#16, 0x0161#16, 0x61#8, 0x61#8⟩
  | .clearK _ => ⟨0xFF80#16, 0x0100#16, 0x62#8, 0x6F#8⟩
  | .rsv01From70 _ => ⟨0xFF00#16, 0x0100#16, 0x70#8, 0xC0#8⟩
  | .loadOpt => ⟨0xFFFF#16, 0x01C1#16, 0xC1#8, 0xC1#8⟩
  | .saveOpt => ⟨0xFFFF#16, 0x01C2#16, 0xC2#8, 0xC2#8⟩
  | .rsv01AtC3 => ⟨0xFFFF#16, 0x01C3#16, 0xC3#8, 0xC3#8⟩
  | .clc => ⟨0xFFFF#16, 0x01C4#16, 0xC4#8, 0xC4#8⟩
  | .rsv01FromC5 _ => ⟨0xFF80#16, 0x0180#16, 0xC5#8, 0xC7#8⟩
  | .pmemacc => ⟨0xFFFF#16, 0x01C8#16, 0xC8#8, 0xC8#8⟩
  | .rsv01FromC9 _ => ⟨0xFF80#16, 0x0180#16, 0xC9#8, 0xCF#8⟩
  | .int _ => ⟨0xFFF0#16, 0x01D0#16, 0xD0#8, 0xDF#8⟩
  | .disable => ⟨0xFFFF#16, 0x01E0#16, 0xE0#8, 0xE0#8⟩
  | .enable => ⟨0xFFFF#16, 0x01E1#16, 0xE1#8, 0xE1#8⟩
  | .rsv01FromE2 _ => ⟨0xFF80#16, 0x0180#16, 0xE2#8, 0xF0#8⟩
  | .inputa => ⟨0xFFFF#16, 0x01F1#16, 0xF1#8, 0xF1#8⟩
  | .outputb => ⟨0xFFFF#16, 0x01F2#16, 0xF2#8, 0xF2#8⟩
  | .inout => ⟨0xFFFF#16, 0x01F3#16, 0xF3#8, 0xF3#8⟩
  | .rsv01FromF4 _ => ⟨0xFF80#16, 0x0180#16, 0xF4#8, 0xFF#8⟩
  | .ldAN _ => ⟨0xFF00#16, 0x0200#16, 0x00#8, 0xFF#8⟩
  | .ldBN _ => ⟨0xFF00#16, 0x0300#16, 0x00#8, 0xFF#8⟩
  | .ldCN _ => ⟨0xFF00#16, 0x0400#16, 0x00#8, 0xFF#8⟩
  | .setflagD _ => ⟨0xFF80#16, 0x0500#16, 0x00#8, 0x7E#8⟩
  | .setflagP => ⟨0xFFFF#16, 0x057F#16, 0x7F#8, 0x7F#8⟩
  | .setflagX _ => ⟨0xFF80#16, 0x0580#16, 0x80#8, 0xFF#8⟩
  | .stAD _ => ⟨0xFF80#16, 0x0600#16, 0x00#8, 0x7E#8⟩
  | .roopshlc => ⟨0xFFFF#16, 0x067F#16, 0x7F#8, 0x7F#8⟩
  | .stAX _ => ⟨0xFF80#16, 0x0680#16, 0x80#8, 0xFF#8⟩
  | .stBD _ => ⟨0xFF80#16, 0x0700#16, 0x00#8, 0x7E#8⟩
  | .roopshrc => ⟨0xFFFF#16, 0x077F#16, 0x7F#8, 0x7F#8⟩
  | .zeroX _ => ⟨0xFF80#16, 0x0780#16, 0x80#8, 0xFF#8⟩
  | .shlD _ => ⟨0xFF80#16, 0x0800#16, 0x00#8, 0x7E#8⟩
  | .shlP => ⟨0xFFFF#16, 0x087F#16, 0x7F#8, 0x7F#8⟩
  | .shlX _ => ⟨0xFF80#16, 0x0880#16, 0x80#8, 0xFF#8⟩
  | .shrD _ => ⟨0xFF80#16, 0x0900#16, 0x00#8, 0x7E#8⟩
  | .shrP => ⟨0xFFFF#16, 0x097F#16, 0x7F#8, 0x7F#8⟩
  | .shrX _ => ⟨0xFF80#16, 0x0980#16, 0x80#8, 0xFF#8⟩
  | .andMemD _ => ⟨0xFF80#16, 0x0A00#16, 0x00#8, 0x7E#8⟩
  | .andMemP => ⟨0xFFFF#16, 0x0A7F#16, 0x7F#8, 0x7F#8⟩
  | .andMemX _ => ⟨0xFF80#16, 0x0A80#16, 0x80#8, 0xFF#8⟩
  | .stCD _ => ⟨0xFF80#16, 0x0B00#16, 0x00#8, 0x7E#8⟩
  | .stCP => ⟨0xFFFF#16, 0x0B7F#16, 0x7F#8, 0x7F#8⟩
  | .stCX _ => ⟨0xFF80#16, 0x0B80#16, 0x80#8, 0xFF#8⟩
  | .xorMemD _ => ⟨0xFF80#16, 0x0C00#16, 0x00#8, 0x7E#8⟩
  | .xorMemP => ⟨0xFFFF#16, 0x0C7F#16, 0x7F#8, 0x7F#8⟩
  | .xorMemX _ => ⟨0xFF80#16, 0x0C80#16, 0x80#8, 0xFF#8⟩
  | .getflagD _ => ⟨0xFF80#16, 0x0D00#16, 0x00#8, 0x7E#8⟩
  | .getflagP => ⟨0xFFFF#16, 0x0D7F#16, 0x7F#8, 0x7F#8⟩
  | .getflagX _ => ⟨0xFF80#16, 0x0D80#16, 0x80#8, 0xFF#8⟩
  | .orMemD _ => ⟨0xFF80#16, 0x0E00#16, 0x00#8, 0x7E#8⟩
  | .orMemP => ⟨0xFFFF#16, 0x0E7F#16, 0x7F#8, 0x7F#8⟩
  | .orMemX _ => ⟨0xFF80#16, 0x0E80#16, 0x80#8, 0xFF#8⟩
  | .unused0F _ => ⟨0xFF00#16, 0x0F00#16, 0x00#8, 0xFF#8⟩
  | .jmpM _ => ⟨0xFF80#16, 0x1000#16, 0x00#8, 0x79#8⟩
  | .jmpC0 => ⟨0xFFFF#16, 0x107A#16, 0x7A#8, 0x7A#8⟩
  | .jmpC1 => ⟨0xFFFF#16, 0x107B#16, 0x7B#8, 0x7B#8⟩
  | .jmpZ0 => ⟨0xFFFF#16, 0x107C#16, 0x7C#8, 0x7C#8⟩
  | .jmpZ1 => ⟨0xFFFF#16, 0x107D#16, 0x7D#8, 0x7D#8⟩
  | .rsv10At7E => ⟨0xFFFF#16, 0x107E#16, 0x7E#8, 0x7E#8⟩
  | .jmpP => ⟨0xFFFF#16, 0x107F#16, 0x7F#8, 0x7F#8⟩
  | .jmpX _ => ⟨0xFF80#16, 0x1080#16, 0x80#8, 0xFF#8⟩
  | .balM _ => ⟨0xFF80#16, 0x1100#16, 0x00#8, 0x79#8⟩
  | .balC0 => ⟨0xFFFF#16, 0x117A#16, 0x7A#8, 0x7A#8⟩
  | .balC1 => ⟨0xFFFF#16, 0x117B#16, 0x7B#8, 0x7B#8⟩
  | .balZ0 => ⟨0xFFFF#16, 0x117C#16, 0x7C#8, 0x7C#8⟩
  | .balZ1 => ⟨0xFFFF#16, 0x117D#16, 0x7D#8, 0x7D#8⟩
  | .rsv11At7E => ⟨0xFFFF#16, 0x117E#16, 0x7E#8, 0x7E#8⟩
  | .balP => ⟨0xFFFF#16, 0x117F#16, 0x7F#8, 0x7F#8⟩
  | .balX _ => ⟨0xFF80#16, 0x1180#16, 0x80#8, 0xFF#8⟩
  | .jrFwd _ => ⟨0xFF80#16, 0x1200#16, 0x00#8, 0x7E#8⟩
  | .unusable12 => ⟨0xFFFF#16, 0x127F#16, 0x7F#8, 0x7F#8⟩
  | .jrB => ⟨0xFFFF#16, 0x1280#16, 0x80#8, 0x80#8⟩
  | .jrBack _ => ⟨0xFF80#16, 0x1280#16, 0x81#8, 0xFF#8⟩
  | .brFwd _ => ⟨0xFF80#16, 0x1300#16, 0x00#8, 0x7E#8⟩
  | .unusable13 => ⟨0xFFFF#16, 0x137F#16, 0x7F#8, 0x7F#8⟩
  | .brB => ⟨0xFFFF#16, 0x1380#16, 0x80#8, 0x80#8⟩
  | .brBack _ => ⟨0xFF80#16, 0x1380#16, 0x81#8, 0xFF#8⟩
  | .jrc0Fwd _ => ⟨0xFF80#16, 0x1400#16, 0x00#8, 0x7E#8⟩
  | .unusable14 => ⟨0xFFFF#16, 0x147F#16, 0x7F#8, 0x7F#8⟩
  | .jrc0B => ⟨0xFFFF#16, 0x1480#16, 0x80#8, 0x80#8⟩
  | .jrc0Back _ => ⟨0xFF80#16, 0x1480#16, 0x81#8, 0xFF#8⟩
  | .brc0Fwd _ => ⟨0xFF80#16, 0x1500#16, 0x00#8, 0x7E#8⟩
  | .unusable15 => ⟨0xFFFF#16, 0x157F#16, 0x7F#8, 0x7F#8⟩
  | .brc0B => ⟨0xFFFF#16, 0x1580#16, 0x80#8, 0x80#8⟩
  | .brc0Back _ => ⟨0xFF80#16, 0x1580#16, 0x81#8, 0xFF#8⟩
  | .jrc1Fwd _ => ⟨0xFF80#16, 0x1600#16, 0x00#8, 0x7E#8⟩
  | .unusable16 => ⟨0xFFFF#16, 0x167F#16, 0x7F#8, 0x7F#8⟩
  | .jrc1B => ⟨0xFFFF#16, 0x1680#16, 0x80#8, 0x80#8⟩
  | .jrc1Back _ => ⟨0xFF80#16, 0x1680#16, 0x81#8, 0xFF#8⟩
  | .brc1Fwd _ => ⟨0xFF80#16, 0x1700#16, 0x00#8, 0x7E#8⟩
  | .unusable17 => ⟨0xFFFF#16, 0x177F#16, 0x7F#8, 0x7F#8⟩
  | .brc1B => ⟨0xFFFF#16, 0x1780#16, 0x80#8, 0x80#8⟩
  | .brc1Back _ => ⟨0xFF80#16, 0x1780#16, 0x81#8, 0xFF#8⟩
  | .jrz0Fwd _ => ⟨0xFF80#16, 0x1800#16, 0x00#8, 0x7E#8⟩
  | .unusable18 => ⟨0xFFFF#16, 0x187F#16, 0x7F#8, 0x7F#8⟩
  | .jrz0B => ⟨0xFFFF#16, 0x1880#16, 0x80#8, 0x80#8⟩
  | .jrz0Back _ => ⟨0xFF80#16, 0x1880#16, 0x81#8, 0xFF#8⟩
  | .brz0Fwd _ => ⟨0xFF80#16, 0x1900#16, 0x00#8, 0x7E#8⟩
  | .unusable19 => ⟨0xFFFF#16, 0x197F#16, 0x7F#8, 0x7F#8⟩
  | .brz0B => ⟨0xFFFF#16, 0x1980#16, 0x80#8, 0x80#8⟩
  | .brz0Back _ => ⟨0xFF80#16, 0x1980#16, 0x81#8, 0xFF#8⟩
  | .jrz1Fwd _ => ⟨0xFF80#16, 0x1A00#16, 0x00#8, 0x7E#8⟩
  | .unusable1A => ⟨0xFFFF#16, 0x1A7F#16, 0x7F#8, 0x7F#8⟩
  | .jrz1B => ⟨0xFFFF#16, 0x1A80#16, 0x80#8, 0x80#8⟩
  | .jrz1Back _ => ⟨0xFF80#16, 0x1A80#16, 0x81#8, 0xFF#8⟩
  | .brz1Fwd _ => ⟨0xFF80#16, 0x1B00#16, 0x00#8, 0x7E#8⟩
  | .unusable1B => ⟨0xFFFF#16, 0x1B7F#16, 0x7F#8, 0x7F#8⟩
  | .brz1B => ⟨0xFFFF#16, 0x1B80#16, 0x80#8, 0x80#8⟩
  | .brz1Back _ => ⟨0xFF80#16, 0x1B80#16, 0x81#8, 0xFF#8⟩
  | .unused1C _ => ⟨0xFF00#16, 0x1C00#16, 0x00#8, 0xFF#8⟩
  | .inD _ => ⟨0xFF80#16, 0x1D00#16, 0x00#8, 0x7E#8⟩
  | .inP => ⟨0xFFFF#16, 0x1D7F#16, 0x7F#8, 0x7F#8⟩
  | .inX _ => ⟨0xFF80#16, 0x1D80#16, 0x80#8, 0xFF#8⟩
  | .outD _ => ⟨0xFF80#16, 0x1E00#16, 0x00#8, 0x7E#8⟩
  | .outP => ⟨0xFFFF#16, 0x1E7F#16, 0x7F#8, 0x7F#8⟩
  | .outX _ => ⟨0xFF80#16, 0x1E80#16, 0x80#8, 0xFF#8⟩
  | .reti _ => ⟨0xFF80#16, 0x1F00#16, 0x00#8, 0x7E#8⟩
  | .rsv1FAt7F => ⟨0xFFFF#16, 0x1F7F#16, 0x7F#8, 0x7F#8⟩
  | .rsv1FFrom80 _ => ⟨0xFF80#16, 0x1F80#16, 0x80#8, 0xFF#8⟩
  | .incD _ => ⟨0xFF80#16, 0x2000#16, 0x00#8, 0x7E#8⟩
  | .incP => ⟨0xFFFF#16, 0x207F#16, 0x7F#8, 0x7F#8⟩
  | .incX _ => ⟨0xFF80#16, 0x2080#16, 0x80#8, 0xFF#8⟩
  | .inccD _ => ⟨0xFF80#16, 0x2100#16, 0x00#8, 0x7E#8⟩
  | .inccP => ⟨0xFFFF#16, 0x217F#16, 0x7F#8, 0x7F#8⟩
  | .inccX _ => ⟨0xFF80#16, 0x2180#16, 0x80#8, 0xFF#8⟩
  | .incxD _ => ⟨0xFF80#16, 0x2200#16, 0x00#8, 0x7E#8⟩
  | .incxP => ⟨0xFFFF#16, 0x227F#16, 0x7F#8, 0x7F#8⟩
  | .incxX _ => ⟨0xFF80#16, 0x2280#16, 0x80#8, 0xFF#8⟩
  | .incxcD _ => ⟨0xFF80#16, 0x2300#16, 0x00#8, 0x7E#8⟩
  | .incxcP => ⟨0xFFFF#16, 0x237F#16, 0x7F#8, 0x7F#8⟩
  | .incxcX _ => ⟨0xFF80#16, 0x2380#16, 0x80#8, 0xFF#8⟩
  | .addMemD _ => ⟨0xFF80#16, 0x2400#16, 0x00#8, 0x7E#8⟩
  | .addMemP => ⟨0xFFFF#16, 0x247F#16, 0x7F#8, 0x7F#8⟩
  | .addMemX _ => ⟨0xFF80#16, 0x2480#16, 0x80#8, 0xFF#8⟩
  | .addcMemD _ => ⟨0xFF80#16, 0x2500#16, 0x00#8, 0x7E#8⟩
  | .addcMemP => ⟨0xFFFF#16, 0x257F#16, 0x7F#8, 0x7F#8⟩
  | .addcMemX _ => ⟨0xFF80#16, 0x2580#16, 0x80#8, 0xFF#8⟩
  | .addAD _ => ⟨0xFF80#16, 0x2600#16, 0x00#8, 0x7E#8⟩
  | .addAC => ⟨0xFFFF#16, 0x267F#16, 0x7F#8, 0x7F#8⟩
  | .addAX _ => ⟨0xFF80#16, 0x2680#16, 0x80#8, 0xFF#8⟩
  | .addcAD _ => ⟨0xFF80#16, 0x2700#16, 0x00#8, 0x7E#8⟩
  | .addcAC => ⟨0xFFFF#16, 0x277F#16, 0x7F#8, 0x7F#8⟩
  | .addcAX _ => ⟨0xFF80#16, 0x2780#16, 0x80#8, 0xFF#8⟩
  | .shlcD _ => ⟨0xFF80#16, 0x2800#16, 0x00#8, 0x7E#8⟩
  | .shlcP => ⟨0xFFFF#16, 0x287F#16, 0x7F#8, 0x7F#8⟩
  | .shlcX _ => ⟨0xFF80#16, 0x2880#16, 0x80#8, 0xFF#8⟩
  | .shrcD _ => ⟨0xFF80#16, 0x2900#16, 0x00#8, 0x7E#8⟩
  | .shrcP => ⟨0xFFFF#16, 0x297F#16, 0x7F#8, 0x7F#8⟩
  | .shrcX _ => ⟨0xFF80#16, 0x2980#16, 0x80#8, 0xFF#8⟩
  | .ldAD _ => ⟨0xFF80#16, 0x2A00#16, 0x00#8, 0x7E#8⟩
  | .ldAP => ⟨0xFFFF#16, 0x2A7F#16, 0x7F#8, 0x7F#8⟩
  | .ldAX _ => ⟨0xFF80#16, 0x2A80#16, 0x80#8, 0xFF#8⟩
  | .ldBD _ => ⟨0xFF80#16, 0x2B00#16, 0x00#8, 0x7E#8⟩
  | .ldBP => ⟨0xFFFF#16, 0x2B7F#16, 0x7F#8, 0x7F#8⟩
  | .ldBX _ => ⟨0xFF80#16, 0x2B80#16, 0x80#8, 0xFF#8⟩
  | .ldCD _ => ⟨0xFF80#16, 0x2C00#16, 0x00#8, 0x7E#8⟩
  | .ldCP => ⟨0xFFFF#16, 0x2C7F#16, 0x7F#8, 0x7F#8⟩
  | .ldCX _ => ⟨0xFF80#16, 0x2C80#16, 0x80#8, 0xFF#8⟩
  | .stacpD _ => ⟨0xFF80#16, 0x2D00#16, 0x00#8, 0x7E#8⟩
  | .stacpP => ⟨0xFFFF#16, 0x2D7F#16, 0x7F#8, 0x7F#8⟩
  | .stacpX _ => ⟨0xFF80#16, 0x2D80#16, 0x80#8, 0xFF#8⟩
  | .stabD _ => ⟨0xFF80#16, 0x2E00#16, 0x00#8, 0x7E#8⟩
  | .stac => ⟨0xFFFF#16, 0x2E7F#16, 0x7F#8, 0x7F#8⟩
  | .stabX _ => ⟨0xFF80#16, 0x2E80#16, 0x80#8, 0xFF#8⟩
  | .stabpD _ => ⟨0xFF80#16, 0x2F00#16, 0x00#8, 0x7E#8⟩
  | .stzcp => ⟨0xFFFF#16, 0x2F7F#16, 0x7F#8, 0x7F#8⟩
  | .stabpX _ => ⟨0xFF80#16, 0x2F80#16, 0x80#8, 0xFF#8⟩
  | .decD _ => ⟨0xFF80#16, 0x3000#16, 0x00#8, 0x7E#8⟩
  | .decP => ⟨0xFFFF#16, 0x307F#16, 0x7F#8, 0x7F#8⟩
  | .decX _ => ⟨0xFF80#16, 0x3080#16, 0x80#8, 0xFF#8⟩
  | .deccD _ => ⟨0xFF80#16, 0x3100#16, 0x00#8, 0x7E#8⟩
  | .deccP => ⟨0xFFFF#16, 0x317F#16, 0x7F#8, 0x7F#8⟩
  | .deccX _ => ⟨0xFF80#16, 0x3180#16, 0x80#8, 0xFF#8⟩
  | .decxD _ => ⟨0xFF80#16, 0x3200#16, 0x00#8, 0x7E#8⟩
  | .decxP => ⟨0xFFFF#16, 0x327F#16, 0x7F#8, 0x7F#8⟩
  | .decxX _ => ⟨0xFF80#16, 0x3280#16, 0x80#8, 0xFF#8⟩
  | .decxcD _ => ⟨0xFF80#16, 0x3300#16, 0x00#8, 0x7E#8⟩
  | .decxcP => ⟨0xFFFF#16, 0x337F#16, 0x7F#8, 0x7F#8⟩
  | .decxcX _ => ⟨0xFF80#16, 0x3380#16, 0x80#8, 0xFF#8⟩
  | .subMemD _ => ⟨0xFF80#16, 0x3400#16, 0x00#8, 0x7E#8⟩
  | .subMemP => ⟨0xFFFF#16, 0x347F#16, 0x7F#8, 0x7F#8⟩
  | .subMemX _ => ⟨0xFF80#16, 0x3480#16, 0x80#8, 0xFF#8⟩
  | .subcMemD _ => ⟨0xFF80#16, 0x3500#16, 0x00#8, 0x7E#8⟩
  | .subcMemP => ⟨0xFFFF#16, 0x357F#16, 0x7F#8, 0x7F#8⟩
  | .subcMemX _ => ⟨0xFF80#16, 0x3580#16, 0x80#8, 0xFF#8⟩
  | .subAD _ => ⟨0xFF80#16, 0x3600#16, 0x00#8, 0x7E#8⟩
  | .subAC => ⟨0xFFFF#16, 0x367F#16, 0x7F#8, 0x7F#8⟩
  | .subAX _ => ⟨0xFF80#16, 0x3680#16, 0x80#8, 0xFF#8⟩
  | .subcAD _ => ⟨0xFF80#16, 0x3700#16, 0x00#8, 0x7E#8⟩
  | .subcAC => ⟨0xFFFF#16, 0x377F#16, 0x7F#8, 0x7F#8⟩
  | .subcAX _ => ⟨0xFF80#16, 0x3780#16, 0x80#8, 0xFF#8⟩
  | .loopdecWait => ⟨0xFFFF#16, 0x3800#16, 0x00#8, 0x00#8⟩
  | .loopdecFwd _ => ⟨0xFF80#16, 0x3800#16, 0x01#8, 0x7E#8⟩
  | .loopshrc => ⟨0xFFFF#16, 0x387F#16, 0x7F#8, 0x7F#8⟩
  | .loopdecB => ⟨0xFFFF#16, 0x3880#16, 0x80#8, 0x80#8⟩
  | .loopdecBack _ => ⟨0xFF80#16, 0x3880#16, 0x81#8, 0xFF#8⟩
  | .loopzero => ⟨0xFFFF#16, 0x3900#16, 0x00#8, 0x00#8⟩
  | .loopincFwd _ => ⟨0xFF80#16, 0x3900#16, 0x01#8, 0x7E#8⟩
  | .loopshlc => ⟨0xFFFF#16, 0x397F#16, 0x7F#8, 0x7F#8⟩
  | .loopincB => ⟨0xFFFF#16, 0x3980#16, 0x80#8, 0x80#8⟩
  | .loopincBack _ => ⟨0xFF80#16, 0x3980#16, 0x81#8, 0xFF#8⟩
  | .andAD _ => ⟨0xFF80#16, 0x3A00#16, 0x00#8, 0x7E#8⟩
  | .andAC => ⟨0xFFFF#16, 0x3A7F#16, 0x7F#8, 0x7F#8⟩
  | .andAX _ => ⟨0xFF80#16, 0x3A80#16, 0x80#8, 0xFF#8⟩
  | .andAN _ => ⟨0xFF00#16, 0x3B00#16, 0x00#8, 0xFF#8⟩
  | .xorAD _ => ⟨0xFF80#16, 0x3C00#16, 0x00#8, 0x7E#8⟩
  | .xorAC => ⟨0xFFFF#16, 0x3C7F#16, 0x7F#8, 0x7F#8⟩
  | .xorAX _ => ⟨0xFF80#16, 0x3C80#16, 0x80#8, 0xFF#8⟩
  | .xorAN _ => ⟨0xFF00#16, 0x3D00#16, 0x00#8, 0xFF#8⟩
  | .orAD _ => ⟨0xFF80#16, 0x3E00#16, 0x00#8, 0x7E#8⟩
  | .orAC => ⟨0xFFFF#16, 0x3E7F#16, 0x7F#8, 0x7F#8⟩
  | .orAX _ => ⟨0xFF80#16, 0x3E80#16, 0x80#8, 0xFF#8⟩
  | .orAN _ => ⟨0xFF00#16, 0x3F00#16, 0x00#8, 0xFF#8⟩
  | .hardMacro _ _ => ⟨0xC000#16, 0x4000#16, 0x00#8, 0xFF#8⟩
  | .opmsb _ _ _ => ⟨0x8000#16, 0x8000#16, 0x00#8, 0xFF#8⟩

/-- A word belongs to a row. -/
def Row.holds (r : Row) (w : InstrWord) : Bool :=
  w &&& r.mask == r.pattern && r.lo ≤ w.extractLsb' 0 8 && w.extractLsb' 0 8 ≤ r.hi

end Sys2Proof.Laws.RowTable
end

