-- ==== Sys2Proof/Laws/PerInstr.lean ====
section
/-! SUPPORT. The per-instruction family RowTable: the word of a well-formed instruction belongs to the instruction's own
row of spec/opcode_table.json. -/

namespace Sys2Proof.Laws.RowTable

/-- The encoder's word of `i` is a word of `i`'s row. -/
def Statement (i : Instr) : Prop := i.wf = true → (row i).holds (encode i) = true

/-- The low byte of a word is its operand byte. -/
theorem word_low (t : BitVec 8) (xx : Byte) : (t ++ xx : InstrWord).extractLsb' 0 8 = xx :=
  BitVec.extractLsb'_append_eq_right

/-- A mask of the high byte leaves nothing of the operand byte. -/
theorem word_mask (t m : BitVec 8) (xx : Byte) : ((t ++ xx : InstrWord) &&& (m ++ 0#8)) = (t &&& m) ++ 0#8 := by
  have h := BitVec.and_append (x₁ := t) (x₂ := m) (y₁ := xx) (y₂ := 0#8)
  exact h.trans (by simp)

/-- A row with a mask of the high byte alone and every operand byte holds of a word whose high byte fits. -/
theorem row_of_high {t m p : BitVec 8} (xx : Byte) (h : t &&& m = p) :
    Row.holds ⟨m ++ 0#8, p ++ 0#8, 0x00#8, 0xFF#8⟩ (t ++ xx) = true := by
  have hx : xx ≤ 255#8 := by
    have := xx.isLt
    rw [BitVec.le_def]
    simp
    omega
  have h0 : 0#8 ≤ xx := by simp [BitVec.le_def]
  simp only [Row.holds, word_low, word_mask, h]
  simp [hx, h0]

theorem hardMacro_row (op : BitVec 6) (xx : Byte) : Statement (.hardMacro op xx) := fun _ =>
  row_of_high (m := 0xC0#8) (p := 0x40#8) xx 
    (by clear * -; revert op; decide)

theorem opmsb_row (mac : Bool) (op : BitVec 6) (xx : Byte) : Statement (.opmsb mac op xx) := fun _ =>
  row_of_high (m := 0x80#8) (p := 0x80#8) xx 
    (by clear * -; revert mac op; decide)

/-- Every instruction's word is a word of its row. -/
theorem statement (i : Instr) : Statement i := by
  unfold Statement
  cases i with
  | hardMacro op xx => exact hardMacro_row op xx
  | opmsb mac op xx => exact opmsb_row mac op xx
  | _ => first
    | decide +kernel
    | (rename_i x; revert x; decide +kernel)

theorem nop (xx : Byte) : Statement (.nop xx) := statement _

theorem rsv01At00 : Statement (.rsv01At00) := statement _

theorem ldAB : Statement (.ldAB) := statement _

theorem ldBA : Statement (.ldBA) := statement _

theorem swap : Statement (.swap) := statement _

theorem rsv01From04 (xx : Byte) : Statement (.rsv01From04 xx) := statement _

theorem ldBC : Statement (.ldBC) := statement _

theorem getpc : Statement (.getpc) := statement _

theorem getmc : Statement (.getmc) := statement _

theorem rsv01At23 : Statement (.rsv01At23) := statement _

theorem setpc : Statement (.setpc) := statement _

theorem rsv01From25 (xx : Byte) : Statement (.rsv01From25 xx) := statement _

theorem setmc : Statement (.setmc) := statement _

theorem rsv01From29 (xx : Byte) : Statement (.rsv01From29 xx) := statement _

theorem usermode (k : BitVec 1) : Statement (.usermode k) := statement _

theorem rsv01From32 (xx : Byte) : Statement (.rsv01From32 xx) := statement _

theorem offset (k : BitVec 2) : Statement (.offset k) := statement _

theorem rsv01From44 (xx : Byte) : Statement (.rsv01From44 xx) := statement _

theorem getstat : Statement (.getstat) := statement _

theorem getver : Statement (.getver) := statement _

theorem rsv01At53 : Statement (.rsv01At53) := statement _

theorem getid : Statement (.getid) := statement _

theorem rsv01From55 (xx : Byte) : Statement (.rsv01From55 xx) := statement _

theorem cpuinfo : Statement (.cpuinfo) := statement _

theorem rsv01From59 (xx : Byte) : Statement (.rsv01From59 xx) := statement _

theorem clear0 : Statement (.clear0) := statement _

theorem clear1 : Statement (.clear1) := statement _

theorem clearK (k : BitVec 4) : Statement (.clearK k) := statement _

theorem rsv01From70 (xx : Byte) : Statement (.rsv01From70 xx) := statement _

theorem loadOpt : Statement (.loadOpt) := statement _

theorem saveOpt : Statement (.saveOpt) := statement _

theorem rsv01AtC3 : Statement (.rsv01AtC3) := statement _

theorem clc : Statement (.clc) := statement _

theorem rsv01FromC5 (xx : Byte) : Statement (.rsv01FromC5 xx) := statement _

theorem pmemacc : Statement (.pmemacc) := statement _

theorem rsv01FromC9 (xx : Byte) : Statement (.rsv01FromC9 xx) := statement _

theorem int (k : BitVec 4) : Statement (.int k) := statement _

theorem disable : Statement (.disable) := statement _

theorem enable : Statement (.enable) := statement _

theorem rsv01FromE2 (xx : Byte) : Statement (.rsv01FromE2 xx) := statement _

theorem inputa : Statement (.inputa) := statement _

theorem outputb : Statement (.outputb) := statement _

theorem inout : Statement (.inout) := statement _

theorem rsv01FromF4 (xx : Byte) : Statement (.rsv01FromF4 xx) := statement _

theorem ldAN (n : Byte) : Statement (.ldAN n) := statement _

theorem ldBN (n : Byte) : Statement (.ldBN n) := statement _

theorem ldCN (n : Byte) : Statement (.ldCN n) := statement _

theorem setflagD (m : BitVec 7) : Statement (.setflagD m) := statement _

theorem setflagP : Statement (.setflagP) := statement _

theorem setflagX (m : BitVec 7) : Statement (.setflagX m) := statement _

theorem stAD (m : BitVec 7) : Statement (.stAD m) := statement _

theorem roopshlc : Statement (.roopshlc) := statement _

theorem stAX (m : BitVec 7) : Statement (.stAX m) := statement _

theorem stBD (m : BitVec 7) : Statement (.stBD m) := statement _

theorem roopshrc : Statement (.roopshrc) := statement _

theorem zeroX (m : BitVec 7) : Statement (.zeroX m) := statement _

theorem shlD (m : BitVec 7) : Statement (.shlD m) := statement _

theorem shlP : Statement (.shlP) := statement _

theorem shlX (m : BitVec 7) : Statement (.shlX m) := statement _

theorem shrD (m : BitVec 7) : Statement (.shrD m) := statement _

theorem shrP : Statement (.shrP) := statement _

theorem shrX (m : BitVec 7) : Statement (.shrX m) := statement _

theorem andMemD (m : BitVec 7) : Statement (.andMemD m) := statement _

theorem andMemP : Statement (.andMemP) := statement _

theorem andMemX (m : BitVec 7) : Statement (.andMemX m) := statement _

theorem stCD (m : BitVec 7) : Statement (.stCD m) := statement _

theorem stCP : Statement (.stCP) := statement _

theorem stCX (m : BitVec 7) : Statement (.stCX m) := statement _

theorem xorMemD (m : BitVec 7) : Statement (.xorMemD m) := statement _

theorem xorMemP : Statement (.xorMemP) := statement _

theorem xorMemX (m : BitVec 7) : Statement (.xorMemX m) := statement _

theorem getflagD (m : BitVec 7) : Statement (.getflagD m) := statement _

theorem getflagP : Statement (.getflagP) := statement _

theorem getflagX (m : BitVec 7) : Statement (.getflagX m) := statement _

theorem orMemD (m : BitVec 7) : Statement (.orMemD m) := statement _

theorem orMemP : Statement (.orMemP) := statement _

theorem orMemX (m : BitVec 7) : Statement (.orMemX m) := statement _

theorem unused0F (xx : Byte) : Statement (.unused0F xx) := statement _

theorem jmpM (m : BitVec 7) : Statement (.jmpM m) := statement _

theorem jmpC0 : Statement (.jmpC0) := statement _

theorem jmpC1 : Statement (.jmpC1) := statement _

theorem jmpZ0 : Statement (.jmpZ0) := statement _

theorem jmpZ1 : Statement (.jmpZ1) := statement _

theorem rsv10At7E : Statement (.rsv10At7E) := statement _

theorem jmpP : Statement (.jmpP) := statement _

theorem jmpX (m : BitVec 7) : Statement (.jmpX m) := statement _

theorem balM (m : BitVec 7) : Statement (.balM m) := statement _

theorem balC0 : Statement (.balC0) := statement _

theorem balC1 : Statement (.balC1) := statement _

theorem balZ0 : Statement (.balZ0) := statement _

theorem balZ1 : Statement (.balZ1) := statement _

theorem rsv11At7E : Statement (.rsv11At7E) := statement _

theorem balP : Statement (.balP) := statement _

theorem balX (m : BitVec 7) : Statement (.balX m) := statement _

theorem jrFwd (n : Byte) : Statement (.jrFwd n) := statement _

theorem unusable12 : Statement (.unusable12) := statement _

theorem jrB : Statement (.jrB) := statement _

theorem jrBack (n : Byte) : Statement (.jrBack n) := statement _

theorem brFwd (n : Byte) : Statement (.brFwd n) := statement _

theorem unusable13 : Statement (.unusable13) := statement _

theorem brB : Statement (.brB) := statement _

theorem brBack (n : Byte) : Statement (.brBack n) := statement _

theorem jrc0Fwd (n : Byte) : Statement (.jrc0Fwd n) := statement _

theorem unusable14 : Statement (.unusable14) := statement _

theorem jrc0B : Statement (.jrc0B) := statement _

theorem jrc0Back (n : Byte) : Statement (.jrc0Back n) := statement _

theorem brc0Fwd (n : Byte) : Statement (.brc0Fwd n) := statement _

theorem unusable15 : Statement (.unusable15) := statement _

theorem brc0B : Statement (.brc0B) := statement _

theorem brc0Back (n : Byte) : Statement (.brc0Back n) := statement _

theorem jrc1Fwd (n : Byte) : Statement (.jrc1Fwd n) := statement _

theorem unusable16 : Statement (.unusable16) := statement _

theorem jrc1B : Statement (.jrc1B) := statement _

theorem jrc1Back (n : Byte) : Statement (.jrc1Back n) := statement _

theorem brc1Fwd (n : Byte) : Statement (.brc1Fwd n) := statement _

theorem unusable17 : Statement (.unusable17) := statement _

theorem brc1B : Statement (.brc1B) := statement _

theorem brc1Back (n : Byte) : Statement (.brc1Back n) := statement _

theorem jrz0Fwd (n : Byte) : Statement (.jrz0Fwd n) := statement _

theorem unusable18 : Statement (.unusable18) := statement _

theorem jrz0B : Statement (.jrz0B) := statement _

theorem jrz0Back (n : Byte) : Statement (.jrz0Back n) := statement _

theorem brz0Fwd (n : Byte) : Statement (.brz0Fwd n) := statement _

theorem unusable19 : Statement (.unusable19) := statement _

theorem brz0B : Statement (.brz0B) := statement _

theorem brz0Back (n : Byte) : Statement (.brz0Back n) := statement _

theorem jrz1Fwd (n : Byte) : Statement (.jrz1Fwd n) := statement _

theorem unusable1A : Statement (.unusable1A) := statement _

theorem jrz1B : Statement (.jrz1B) := statement _

theorem jrz1Back (n : Byte) : Statement (.jrz1Back n) := statement _

theorem brz1Fwd (n : Byte) : Statement (.brz1Fwd n) := statement _

theorem unusable1B : Statement (.unusable1B) := statement _

theorem brz1B : Statement (.brz1B) := statement _

theorem brz1Back (n : Byte) : Statement (.brz1Back n) := statement _

theorem unused1C (xx : Byte) : Statement (.unused1C xx) := statement _

theorem inD (m : BitVec 7) : Statement (.inD m) := statement _

theorem inP : Statement (.inP) := statement _

theorem inX (m : BitVec 7) : Statement (.inX m) := statement _

theorem outD (m : BitVec 7) : Statement (.outD m) := statement _

theorem outP : Statement (.outP) := statement _

theorem outX (m : BitVec 7) : Statement (.outX m) := statement _

theorem reti (m : BitVec 7) : Statement (.reti m) := statement _

theorem rsv1FAt7F : Statement (.rsv1FAt7F) := statement _

theorem rsv1FFrom80 (m : BitVec 7) : Statement (.rsv1FFrom80 m) := statement _

theorem incD (m : BitVec 7) : Statement (.incD m) := statement _

theorem incP : Statement (.incP) := statement _

theorem incX (m : BitVec 7) : Statement (.incX m) := statement _

theorem inccD (m : BitVec 7) : Statement (.inccD m) := statement _

theorem inccP : Statement (.inccP) := statement _

theorem inccX (m : BitVec 7) : Statement (.inccX m) := statement _

theorem incxD (m : BitVec 7) : Statement (.incxD m) := statement _

theorem incxP : Statement (.incxP) := statement _

theorem incxX (m : BitVec 7) : Statement (.incxX m) := statement _

theorem incxcD (m : BitVec 7) : Statement (.incxcD m) := statement _

theorem incxcP : Statement (.incxcP) := statement _

theorem incxcX (m : BitVec 7) : Statement (.incxcX m) := statement _

theorem addMemD (m : BitVec 7) : Statement (.addMemD m) := statement _

theorem addMemP : Statement (.addMemP) := statement _

theorem addMemX (m : BitVec 7) : Statement (.addMemX m) := statement _

theorem addcMemD (m : BitVec 7) : Statement (.addcMemD m) := statement _

theorem addcMemP : Statement (.addcMemP) := statement _

theorem addcMemX (m : BitVec 7) : Statement (.addcMemX m) := statement _

theorem addAD (m : BitVec 7) : Statement (.addAD m) := statement _

theorem addAC : Statement (.addAC) := statement _

theorem addAX (m : BitVec 7) : Statement (.addAX m) := statement _

theorem addcAD (m : BitVec 7) : Statement (.addcAD m) := statement _

theorem addcAC : Statement (.addcAC) := statement _

theorem addcAX (m : BitVec 7) : Statement (.addcAX m) := statement _

theorem shlcD (m : BitVec 7) : Statement (.shlcD m) := statement _

theorem shlcP : Statement (.shlcP) := statement _

theorem shlcX (m : BitVec 7) : Statement (.shlcX m) := statement _

theorem shrcD (m : BitVec 7) : Statement (.shrcD m) := statement _

theorem shrcP : Statement (.shrcP) := statement _

theorem shrcX (m : BitVec 7) : Statement (.shrcX m) := statement _

theorem ldAD (m : BitVec 7) : Statement (.ldAD m) := statement _

theorem ldAP : Statement (.ldAP) := statement _

theorem ldAX (m : BitVec 7) : Statement (.ldAX m) := statement _

theorem ldBD (m : BitVec 7) : Statement (.ldBD m) := statement _

theorem ldBP : Statement (.ldBP) := statement _

theorem ldBX (m : BitVec 7) : Statement (.ldBX m) := statement _

theorem ldCD (m : BitVec 7) : Statement (.ldCD m) := statement _

theorem ldCP : Statement (.ldCP) := statement _

theorem ldCX (m : BitVec 7) : Statement (.ldCX m) := statement _

theorem stacpD (m : BitVec 7) : Statement (.stacpD m) := statement _

theorem stacpP : Statement (.stacpP) := statement _

theorem stacpX (m : BitVec 7) : Statement (.stacpX m) := statement _

theorem stabD (m : BitVec 7) : Statement (.stabD m) := statement _

theorem stac : Statement (.stac) := statement _

theorem stabX (m : BitVec 7) : Statement (.stabX m) := statement _

theorem stabpD (m : BitVec 7) : Statement (.stabpD m) := statement _

theorem stzcp : Statement (.stzcp) := statement _

theorem stabpX (m : BitVec 7) : Statement (.stabpX m) := statement _

theorem decD (m : BitVec 7) : Statement (.decD m) := statement _

theorem decP : Statement (.decP) := statement _

theorem decX (m : BitVec 7) : Statement (.decX m) := statement _

theorem deccD (m : BitVec 7) : Statement (.deccD m) := statement _

theorem deccP : Statement (.deccP) := statement _

theorem deccX (m : BitVec 7) : Statement (.deccX m) := statement _

theorem decxD (m : BitVec 7) : Statement (.decxD m) := statement _

theorem decxP : Statement (.decxP) := statement _

theorem decxX (m : BitVec 7) : Statement (.decxX m) := statement _

theorem decxcD (m : BitVec 7) : Statement (.decxcD m) := statement _

theorem decxcP : Statement (.decxcP) := statement _

theorem decxcX (m : BitVec 7) : Statement (.decxcX m) := statement _

theorem subMemD (m : BitVec 7) : Statement (.subMemD m) := statement _

theorem subMemP : Statement (.subMemP) := statement _

theorem subMemX (m : BitVec 7) : Statement (.subMemX m) := statement _

theorem subcMemD (m : BitVec 7) : Statement (.subcMemD m) := statement _

theorem subcMemP : Statement (.subcMemP) := statement _

theorem subcMemX (m : BitVec 7) : Statement (.subcMemX m) := statement _

theorem subAD (m : BitVec 7) : Statement (.subAD m) := statement _

theorem subAC : Statement (.subAC) := statement _

theorem subAX (m : BitVec 7) : Statement (.subAX m) := statement _

theorem subcAD (m : BitVec 7) : Statement (.subcAD m) := statement _

theorem subcAC : Statement (.subcAC) := statement _

theorem subcAX (m : BitVec 7) : Statement (.subcAX m) := statement _

theorem loopdecWait : Statement (.loopdecWait) := statement _

theorem loopdecFwd (n : Byte) : Statement (.loopdecFwd n) := statement _

theorem loopshrc : Statement (.loopshrc) := statement _

theorem loopdecB : Statement (.loopdecB) := statement _

theorem loopdecBack (n : Byte) : Statement (.loopdecBack n) := statement _

theorem loopzero : Statement (.loopzero) := statement _

theorem loopincFwd (n : Byte) : Statement (.loopincFwd n) := statement _

theorem loopshlc : Statement (.loopshlc) := statement _

theorem loopincB : Statement (.loopincB) := statement _

theorem loopincBack (n : Byte) : Statement (.loopincBack n) := statement _

theorem andAD (m : BitVec 7) : Statement (.andAD m) := statement _

theorem andAC : Statement (.andAC) := statement _

theorem andAX (m : BitVec 7) : Statement (.andAX m) := statement _

theorem andAN (n : Byte) : Statement (.andAN n) := statement _

theorem xorAD (m : BitVec 7) : Statement (.xorAD m) := statement _

theorem xorAC : Statement (.xorAC) := statement _

theorem xorAX (m : BitVec 7) : Statement (.xorAX m) := statement _

theorem xorAN (n : Byte) : Statement (.xorAN n) := statement _

theorem orAD (m : BitVec 7) : Statement (.orAD m) := statement _

theorem orAC : Statement (.orAC) := statement _

theorem orAX (m : BitVec 7) : Statement (.orAX m) := statement _

theorem orAN (n : Byte) : Statement (.orAN n) := statement _

theorem hardMacro (op : BitVec 6) (xx : Byte) : Statement (.hardMacro op xx) := statement _

theorem opmsb (mac : Bool) (op : BitVec 6) (xx : Byte) : Statement (.opmsb mac op xx) := statement _

end Sys2Proof.Laws.RowTable
end

