-- ==== Sys2Proof/Tests/Slice0.lean ====
section
/-! SUPPORT. Tests: ill-formed terms are refused, words of the spec decode to their rows, one step per test on the cases of
spec/95_test_vectors.md (named test_v<number>), and witnesses that the hypotheses of the statements can be met. -/

namespace Sys2Proof.Tests

/-! Each theorem is small; they are checked one after the other. -/
set_option Elab.async false

open Sys2Proof Sys2Proof.Machine

/-! ### Well-formedness: a term outside each row's range is refused -/

/-- Every term is ill-formed. -/
def illFormed (l : List Instr) : Bool := l.all fun i => !i.wf

theorem test_wf_control : illFormed [
    .rsv01From04 0x03#8, .rsv01From04 0x20#8, .rsv01From25 0x24#8, .rsv01From25 0x28#8, .rsv01From29 0x28#8,
    .rsv01From29 0x30#8, .rsv01From32 0x31#8, .rsv01From32 0x40#8, .rsv01From44 0x43#8, .rsv01From44 0x51#8,
    .rsv01From55 0x54#8, .rsv01From55 0x58#8, .rsv01From59 0x58#8, .rsv01From59 0x60#8, .clearK 0#4, .clearK 1#4,
    .rsv01From70 0x6F#8, .rsv01From70 0xC1#8, .rsv01FromC5 0xC4#8, .rsv01FromC5 0xC8#8, .rsv01FromC9 0xC8#8,
    .rsv01FromC9 0xD0#8, .rsv01FromE2 0xE1#8, .rsv01FromE2 0xF1#8, .rsv01FromF4 0xF3#8] = true := by
  decide

theorem test_wf_direct_1 : illFormed [
    .setflagD 127#7, .stAD 127#7, .stBD 127#7, .shlD 127#7, .shrD 127#7, .andMemD 127#7, .stCD 127#7,
    .xorMemD 127#7, .getflagD 127#7, .orMemD 127#7, .inD 127#7, .outD 127#7, .reti 127#7, .incD 127#7,
    .inccD 127#7, .incxD 127#7, .incxcD 127#7, .addMemD 127#7, .addcMemD 127#7, .addAD 127#7, .addcAD 127#7,
    .shlcD 127#7, .shrcD 127#7, .ldAD 127#7] = true := by
  decide

theorem test_wf_direct_2 : illFormed [
    .ldBD 127#7, .ldCD 127#7, .stacpD 127#7, .stabD 127#7, .stabpD 127#7, .decD 127#7, .deccD 127#7, .decxD 127#7,
    .decxcD 127#7, .subMemD 127#7, .subcMemD 127#7, .subAD 127#7, .subcAD 127#7, .andAD 127#7, .xorAD 127#7,
    .orAD 127#7] = true := by
  decide

theorem test_wf_jumps : illFormed [
    .jmpM 122#7, .balM 122#7] = true := by
  decide

theorem test_wf_offsets : illFormed [
    .jrFwd 0x7F#8, .jrBack 0x80#8, .brFwd 0x7F#8, .brBack 0x80#8, .jrc0Fwd 0x7F#8, .jrc0Back 0x80#8,
    .brc0Fwd 0x7F#8, .brc0Back 0x80#8, .jrc1Fwd 0x7F#8, .jrc1Back 0x80#8, .brc1Fwd 0x7F#8, .brc1Back 0x80#8,
    .jrz0Fwd 0x7F#8, .jrz0Back 0x80#8, .brz0Fwd 0x7F#8, .brz0Back 0x80#8, .jrz1Fwd 0x7F#8, .jrz1Back 0x80#8,
    .brz1Fwd 0x7F#8, .brz1Back 0x80#8, .loopdecFwd 0x00#8, .loopdecFwd 0x7F#8, .loopdecBack 0x80#8,
    .loopincFwd 0x00#8, .loopincFwd 0x7F#8, .loopincBack 0x80#8] = true := by
  decide

/-! ### Decoding: the words of every row, written from the encodings of spec/30_encoding.md, at the ends of its range -/

/-- Each word decodes to its instruction, a well-formed one, and is the word of that instruction. -/
def reads (l : List (Nat × Instr)) : Bool :=
  l.all fun e => decide (decode (BitVec.ofNat 16 e.1) = e.2) && e.2.wf && decide ((encode e.2).toNat = e.1)

theorem test_decode_nop : reads [
    (0x0000, .nop 0x00#8), (0x00FF, .nop 0xFF#8)] = true := by
  decide +kernel

theorem test_decode_control_1 : reads [
    (0x0100, .rsv01At00), (0x0101, .ldAB), (0x0102, .ldBA), (0x0103, .swap), (0x0104, .rsv01From04 0x04#8),
    (0x011F, .rsv01From04 0x1F#8), (0x0120, .ldBC), (0x0121, .getpc), (0x0122, .getmc), (0x0123, .rsv01At23),
    (0x0124, .setpc), (0x0125, .rsv01From25 0x25#8), (0x0127, .rsv01From25 0x27#8), (0x0128, .setmc),
    (0x0129, .rsv01From29 0x29#8), (0x012F, .rsv01From29 0x2F#8), (0x0130, .usermode 0#1),
    (0x0131, .usermode 1#1), (0x0132, .rsv01From32 0x32#8), (0x013F, .rsv01From32 0x3F#8), (0x0140, .offset 0#2),
    (0x0143, .offset 3#2), (0x0144, .rsv01From44 0x44#8), (0x0150, .rsv01From44 0x50#8), (0x0151, .getstat),
    (0x0152, .getver), (0x0153, .rsv01At53), (0x0154, .getid), (0x0155, .rsv01From55 0x55#8),
    (0x0157, .rsv01From55 0x57#8), (0x0158, .cpuinfo), (0x0159, .rsv01From59 0x59#8),
    (0x015F, .rsv01From59 0x5F#8), (0x0160, .clear0)] = true := by
  decide +kernel

theorem test_decode_control_2 : reads [
    (0x0161, .clear1), (0x0162, .clearK 2#4), (0x016F, .clearK 15#4), (0x0170, .rsv01From70 0x70#8),
    (0x01C0, .rsv01From70 0xC0#8), (0x01C1, .loadOpt), (0x01C2, .saveOpt), (0x01C3, .rsv01AtC3), (0x01C4, .clc),
    (0x01C5, .rsv01FromC5 0xC5#8), (0x01C7, .rsv01FromC5 0xC7#8), (0x01C8, .pmemacc),
    (0x01C9, .rsv01FromC9 0xC9#8), (0x01CF, .rsv01FromC9 0xCF#8), (0x01D0, .int 0#4), (0x01DF, .int 15#4),
    (0x01E0, .disable), (0x01E1, .enable), (0x01E2, .rsv01FromE2 0xE2#8), (0x01F0, .rsv01FromE2 0xF0#8),
    (0x01F1, .inputa), (0x01F2, .outputb), (0x01F3, .inout), (0x01F4, .rsv01FromF4 0xF4#8),
    (0x01FF, .rsv01FromF4 0xFF#8)] = true := by
  decide +kernel

theorem test_decode_immediates_stores : reads [
    (0x0200, .ldAN 0x00#8), (0x02FF, .ldAN 0xFF#8), (0x0300, .ldBN 0x00#8), (0x03FF, .ldBN 0xFF#8),
    (0x0400, .ldCN 0x00#8), (0x04FF, .ldCN 0xFF#8), (0x0500, .setflagD 0#7), (0x057E, .setflagD 126#7),
    (0x057F, .setflagP), (0x0580, .setflagX 0#7), (0x05FF, .setflagX 127#7), (0x0600, .stAD 0#7),
    (0x067E, .stAD 126#7), (0x067F, .roopshlc), (0x0680, .stAX 0#7), (0x06FF, .stAX 127#7), (0x0700, .stBD 0#7),
    (0x077E, .stBD 126#7), (0x077F, .roopshrc), (0x0780, .zeroX 0#7), (0x07FF, .zeroX 127#7)] = true := by
  decide +kernel

theorem test_decode_shifts_logic_flags_1 : reads [
    (0x0800, .shlD 0#7), (0x087E, .shlD 126#7), (0x087F, .shlP), (0x0880, .shlX 0#7), (0x08FF, .shlX 127#7),
    (0x0900, .shrD 0#7), (0x097E, .shrD 126#7), (0x097F, .shrP), (0x0980, .shrX 0#7), (0x09FF, .shrX 127#7),
    (0x0A00, .andMemD 0#7), (0x0A7E, .andMemD 126#7), (0x0A7F, .andMemP), (0x0A80, .andMemX 0#7),
    (0x0AFF, .andMemX 127#7), (0x0B00, .stCD 0#7), (0x0B7E, .stCD 126#7), (0x0B7F, .stCP), (0x0B80, .stCX 0#7),
    (0x0BFF, .stCX 127#7), (0x0C00, .xorMemD 0#7), (0x0C7E, .xorMemD 126#7), (0x0C7F, .xorMemP),
    (0x0C80, .xorMemX 0#7), (0x0CFF, .xorMemX 127#7), (0x0D00, .getflagD 0#7), (0x0D7E, .getflagD 126#7),
    (0x0D7F, .getflagP), (0x0D80, .getflagX 0#7), (0x0DFF, .getflagX 127#7), (0x0E00, .orMemD 0#7),
    (0x0E7E, .orMemD 126#7), (0x0E7F, .orMemP), (0x0E80, .orMemX 0#7)] = true := by
  decide +kernel

theorem test_decode_shifts_logic_flags_2 : reads [
    (0x0EFF, .orMemX 127#7), (0x0F00, .unused0F 0x00#8), (0x0FFF, .unused0F 0xFF#8)] = true := by
  decide +kernel

theorem test_decode_absolute_jumps : reads [
    (0x1000, .jmpM 0#7), (0x1079, .jmpM 121#7), (0x107A, .jmpC0), (0x107B, .jmpC1), (0x107C, .jmpZ0),
    (0x107D, .jmpZ1), (0x107E, .rsv10At7E), (0x107F, .jmpP), (0x1080, .jmpX 0#7), (0x10FF, .jmpX 127#7),
    (0x1100, .balM 0#7), (0x1179, .balM 121#7), (0x117A, .balC0), (0x117B, .balC1), (0x117C, .balZ0),
    (0x117D, .balZ1), (0x117E, .rsv11At7E), (0x117F, .balP), (0x1180, .balX 0#7), (0x11FF, .balX 127#7)] = true := by
  decide +kernel

theorem test_decode_relative_12_16 : reads [
    (0x1200, .jrFwd 0x00#8), (0x127E, .jrFwd 0x7E#8), (0x127F, .unusable12), (0x1280, .jrB),
    (0x1281, .jrBack 0x81#8), (0x12FF, .jrBack 0xFF#8), (0x1300, .brFwd 0x00#8), (0x137E, .brFwd 0x7E#8),
    (0x137F, .unusable13), (0x1380, .brB), (0x1381, .brBack 0x81#8), (0x13FF, .brBack 0xFF#8),
    (0x1400, .jrc0Fwd 0x00#8), (0x147E, .jrc0Fwd 0x7E#8), (0x147F, .unusable14), (0x1480, .jrc0B),
    (0x1481, .jrc0Back 0x81#8), (0x14FF, .jrc0Back 0xFF#8), (0x1500, .brc0Fwd 0x00#8), (0x157E, .brc0Fwd 0x7E#8),
    (0x157F, .unusable15), (0x1580, .brc0B), (0x1581, .brc0Back 0x81#8), (0x15FF, .brc0Back 0xFF#8),
    (0x1600, .jrc1Fwd 0x00#8), (0x167E, .jrc1Fwd 0x7E#8), (0x167F, .unusable16), (0x1680, .jrc1B),
    (0x1681, .jrc1Back 0x81#8), (0x16FF, .jrc1Back 0xFF#8)] = true := by
  decide +kernel

theorem test_decode_relative_17_1b : reads [
    (0x1700, .brc1Fwd 0x00#8), (0x177E, .brc1Fwd 0x7E#8), (0x177F, .unusable17), (0x1780, .brc1B),
    (0x1781, .brc1Back 0x81#8), (0x17FF, .brc1Back 0xFF#8), (0x1800, .jrz0Fwd 0x00#8), (0x187E, .jrz0Fwd 0x7E#8),
    (0x187F, .unusable18), (0x1880, .jrz0B), (0x1881, .jrz0Back 0x81#8), (0x18FF, .jrz0Back 0xFF#8),
    (0x1900, .brz0Fwd 0x00#8), (0x197E, .brz0Fwd 0x7E#8), (0x197F, .unusable19), (0x1980, .brz0B),
    (0x1981, .brz0Back 0x81#8), (0x19FF, .brz0Back 0xFF#8), (0x1A00, .jrz1Fwd 0x00#8), (0x1A7E, .jrz1Fwd 0x7E#8),
    (0x1A7F, .unusable1A), (0x1A80, .jrz1B), (0x1A81, .jrz1Back 0x81#8), (0x1AFF, .jrz1Back 0xFF#8),
    (0x1B00, .brz1Fwd 0x00#8), (0x1B7E, .brz1Fwd 0x7E#8), (0x1B7F, .unusable1B), (0x1B80, .brz1B),
    (0x1B81, .brz1Back 0x81#8), (0x1BFF, .brz1Back 0xFF#8)] = true := by
  decide +kernel

theorem test_decode_ports_reti : reads [
    (0x1C00, .unused1C 0x00#8), (0x1CFF, .unused1C 0xFF#8), (0x1D00, .inD 0#7), (0x1D7E, .inD 126#7),
    (0x1D7F, .inP), (0x1D80, .inX 0#7), (0x1DFF, .inX 127#7), (0x1E00, .outD 0#7), (0x1E7E, .outD 126#7),
    (0x1E7F, .outP), (0x1E80, .outX 0#7), (0x1EFF, .outX 127#7), (0x1F00, .reti 0#7), (0x1F7E, .reti 126#7),
    (0x1F7F, .rsv1FAt7F), (0x1F80, .rsv1FFrom80 0#7), (0x1FFF, .rsv1FFrom80 127#7)] = true := by
  decide +kernel

theorem test_decode_increments : reads [
    (0x2000, .incD 0#7), (0x207E, .incD 126#7), (0x207F, .incP), (0x2080, .incX 0#7), (0x20FF, .incX 127#7),
    (0x2100, .inccD 0#7), (0x217E, .inccD 126#7), (0x217F, .inccP), (0x2180, .inccX 0#7), (0x21FF, .inccX 127#7),
    (0x2200, .incxD 0#7), (0x227E, .incxD 126#7), (0x227F, .incxP), (0x2280, .incxX 0#7), (0x22FF, .incxX 127#7),
    (0x2300, .incxcD 0#7), (0x237E, .incxcD 126#7), (0x237F, .incxcP), (0x2380, .incxcX 0#7),
    (0x23FF, .incxcX 127#7)] = true := by
  decide +kernel

theorem test_decode_additions : reads [
    (0x2400, .addMemD 0#7), (0x247E, .addMemD 126#7), (0x247F, .addMemP), (0x2480, .addMemX 0#7),
    (0x24FF, .addMemX 127#7), (0x2500, .addcMemD 0#7), (0x257E, .addcMemD 126#7), (0x257F, .addcMemP),
    (0x2580, .addcMemX 0#7), (0x25FF, .addcMemX 127#7), (0x2600, .addAD 0#7), (0x267E, .addAD 126#7),
    (0x267F, .addAC), (0x2680, .addAX 0#7), (0x26FF, .addAX 127#7), (0x2700, .addcAD 0#7),
    (0x277E, .addcAD 126#7), (0x277F, .addcAC), (0x2780, .addcAX 0#7), (0x27FF, .addcAX 127#7)] = true := by
  decide +kernel

theorem test_decode_carry_shifts_loads : reads [
    (0x2800, .shlcD 0#7), (0x287E, .shlcD 126#7), (0x287F, .shlcP), (0x2880, .shlcX 0#7), (0x28FF, .shlcX 127#7),
    (0x2900, .shrcD 0#7), (0x297E, .shrcD 126#7), (0x297F, .shrcP), (0x2980, .shrcX 0#7), (0x29FF, .shrcX 127#7),
    (0x2A00, .ldAD 0#7), (0x2A7E, .ldAD 126#7), (0x2A7F, .ldAP), (0x2A80, .ldAX 0#7), (0x2AFF, .ldAX 127#7),
    (0x2B00, .ldBD 0#7), (0x2B7E, .ldBD 126#7), (0x2B7F, .ldBP), (0x2B80, .ldBX 0#7), (0x2BFF, .ldBX 127#7)] = true := by
  decide +kernel

theorem test_decode_loads_copies : reads [
    (0x2C00, .ldCD 0#7), (0x2C7E, .ldCD 126#7), (0x2C7F, .ldCP), (0x2C80, .ldCX 0#7), (0x2CFF, .ldCX 127#7),
    (0x2D00, .stacpD 0#7), (0x2D7E, .stacpD 126#7), (0x2D7F, .stacpP), (0x2D80, .stacpX 0#7),
    (0x2DFF, .stacpX 127#7), (0x2E00, .stabD 0#7), (0x2E7E, .stabD 126#7), (0x2E7F, .stac), (0x2E80, .stabX 0#7),
    (0x2EFF, .stabX 127#7), (0x2F00, .stabpD 0#7), (0x2F7E, .stabpD 126#7), (0x2F7F, .stzcp),
    (0x2F80, .stabpX 0#7), (0x2FFF, .stabpX 127#7)] = true := by
  decide +kernel

theorem test_decode_decrements : reads [
    (0x3000, .decD 0#7), (0x307E, .decD 126#7), (0x307F, .decP), (0x3080, .decX 0#7), (0x30FF, .decX 127#7),
    (0x3100, .deccD 0#7), (0x317E, .deccD 126#7), (0x317F, .deccP), (0x3180, .deccX 0#7), (0x31FF, .deccX 127#7),
    (0x3200, .decxD 0#7), (0x327E, .decxD 126#7), (0x327F, .decxP), (0x3280, .decxX 0#7), (0x32FF, .decxX 127#7),
    (0x3300, .decxcD 0#7), (0x337E, .decxcD 126#7), (0x337F, .decxcP), (0x3380, .decxcX 0#7),
    (0x33FF, .decxcX 127#7)] = true := by
  decide +kernel

theorem test_decode_subtractions : reads [
    (0x3400, .subMemD 0#7), (0x347E, .subMemD 126#7), (0x347F, .subMemP), (0x3480, .subMemX 0#7),
    (0x34FF, .subMemX 127#7), (0x3500, .subcMemD 0#7), (0x357E, .subcMemD 126#7), (0x357F, .subcMemP),
    (0x3580, .subcMemX 0#7), (0x35FF, .subcMemX 127#7), (0x3600, .subAD 0#7), (0x367E, .subAD 126#7),
    (0x367F, .subAC), (0x3680, .subAX 0#7), (0x36FF, .subAX 127#7), (0x3700, .subcAD 0#7),
    (0x377E, .subcAD 126#7), (0x377F, .subcAC), (0x3780, .subcAX 0#7), (0x37FF, .subcAX 127#7)] = true := by
  decide +kernel

theorem test_decode_loops_and : reads [
    (0x3800, .loopdecWait), (0x3801, .loopdecFwd 0x01#8), (0x387E, .loopdecFwd 0x7E#8), (0x387F, .loopshrc),
    (0x3880, .loopdecB), (0x3881, .loopdecBack 0x81#8), (0x38FF, .loopdecBack 0xFF#8), (0x3900, .loopzero),
    (0x3901, .loopincFwd 0x01#8), (0x397E, .loopincFwd 0x7E#8), (0x397F, .loopshlc), (0x3980, .loopincB),
    (0x3981, .loopincBack 0x81#8), (0x39FF, .loopincBack 0xFF#8), (0x3A00, .andAD 0#7), (0x3A7E, .andAD 126#7),
    (0x3A7F, .andAC), (0x3A80, .andAX 0#7), (0x3AFF, .andAX 127#7), (0x3B00, .andAN 0x00#8),
    (0x3BFF, .andAN 0xFF#8)] = true := by
  decide +kernel

theorem test_decode_xor_or : reads [
    (0x3C00, .xorAD 0#7), (0x3C7E, .xorAD 126#7), (0x3C7F, .xorAC), (0x3C80, .xorAX 0#7), (0x3CFF, .xorAX 127#7),
    (0x3D00, .xorAN 0x00#8), (0x3DFF, .xorAN 0xFF#8), (0x3E00, .orAD 0#7), (0x3E7E, .orAD 126#7), (0x3E7F, .orAC),
    (0x3E80, .orAX 0#7), (0x3EFF, .orAX 127#7), (0x3F00, .orAN 0x00#8), (0x3FFF, .orAN 0xFF#8)] = true := by
  decide +kernel

theorem test_decode_macro_opmsb : reads [
    (0x4305, .hardMacro 0x03#6 0x05#8), (0x7FFF, .hardMacro 0x3F#6 0xFF#8), (0x8681, .opmsb false 0x06#6 0x81#8),
    (0xC000, .opmsb true 0x00#6 0x00#8)] = true := by
  decide +kernel

/-! ### One step: cases of spec/95_test_vectors.md -/

/-- The machine at 0100h, with quiet input lines at the next boundary. -/
def start : State := { State.reset with pc := 0x100#17, lineScript := [⟨false, false, false⟩] }

/-- `s` with the listed bytes and the word `w` at its active counter. -/
def put (w : Nat) (s : State) (cells : List Host.Cell) : State :=
  ({ s with mem := cells.foldl (fun m e => m.set e.1 e.2) s.mem } : State).withFetchWord 16 w

/-- One step completes with a state that `p` accepts. -/
def gives (w : Nat) (s : State) (cells : List Host.Cell) (p : State → Bool) : Bool :=
  match step (put w s cells) with
  | .next t => p t
  | .fault _ => false
  | .refused _ => false

/-- One step is refused for the reason `r`. -/
def stops (w : Nat) (s : State) (cells : List Host.Cell) (r : Refusal) : Bool :=
  match step (put w s cells) with
  | .next _ => false
  | .fault _ => false
  | .refused x => decide (x = r)

theorem test_v3_ld_a_b :
    gives 0x0101 { start with a := 0x11#8, b := 0x22#8 } []
      (fun t => t.a == 0x22#8 && t.pc == 0x102#17 && !t.cf && !t.zf) = true := by
  decide +kernel

theorem test_v4_ld_b_a :
    gives 0x0102 { start with a := 0x11#8, b := 0x22#8 } []
      (fun t => t.b == 0x11#8 && t.pc == 0x102#17 && !t.cf && !t.zf) = true := by
  decide +kernel

theorem test_v5_swap :
    gives 0x0103 { start with a := 0x11#8, b := 0x22#8 } []
      (fun t => t.a == 0x22#8 && t.b == 0x11#8 && t.pc == 0x102#17 && !t.cf && !t.zf) = true := by
  decide +kernel

theorem test_v6_ld_b_c :
    gives 0x0120 { start with b := 0x22#8, c := 0x33#8 } []
      (fun t => t.b == 0x33#8 && t.pc == 0x102#17 && !t.cf && !t.zf) = true := by
  decide +kernel

theorem test_v8_getpc_in_millicode :
    gives 0x0121 { start with mf := true, pc := 0x122#17, mc := 0x210#17 } []
      (fun t => t.b == 0x91#8 && t.mc == 0x212#17 && !t.cf && !t.zf) = true := by
  decide +kernel

theorem test_v9_getmc_in_millicode :
    gives 0x0122 { start with mf := true, pc := 0x122#17, mc := 0x210#17 } []
      (fun t => t.a == 0x1#8 && t.b == 0x9#8 && t.mc == 0x212#17 && !t.cf && !t.zf) = true := by
  decide +kernel

theorem test_v11_setpc_target_above_w :
    gives 0x0124 { start with a := 0x12#8, b := 0x34#8 } []
      (fun t => t.pc == 0x468#17 && !t.cf && !t.zf) = true := by
  decide +kernel

theorem test_v13_setmc_in_millicode :
    gives 0x0128 { start with mf := true, pc := 0x122#17, a := 0x1#8, b := 0x20#8, mc := 0x210#17 } []
      (fun t => t.mc == 0x240#17 && !t.cf && !t.zf) = true := by
  decide +kernel

theorem test_v14_usermode_1 :
    gives 0x0131 start []
      (fun t => t.uf && t.pc == 0x102#17 && !t.cf && !t.zf) = true := by
  decide +kernel

theorem test_v16_usermode_2 :
    stops 0x0132 start [] (.reservedEncoding 0x01#6 0x32#8) = true := by
  decide +kernel

theorem test_v17_offset_3 :
    gives 0x0143 start []
      (fun t => t.ofs == 3#2 && t.pc == 0x102#17 && !t.cf && !t.zf) = true := by
  decide +kernel

theorem test_v21_getstat_in_routine :
    gives 0x0151 { start with ef := true, ae := true, inInt := true, ic := 0x40#17 } []
      (fun t => t.a == 0x81#8 && t.ic == 0x42#17 && !t.cf && !t.zf) = true := by
  decide +kernel

theorem test_v23_getver :
    stops 0x0152 start [] .infoRegsAbsent = true := by
  decide +kernel

theorem test_v24_clear_1 :
    gives 0x0161 { start with ae := true } []
      (fun t => !t.ae && t.pc == 0x102#17 && !t.cf && !t.zf) = true := by
  decide +kernel

theorem test_v25_clear_0 :
    stops 0x0160 start [] (.clearCauseUndefined 0#4) = true := by
  decide +kernel

theorem test_v26_load :
    stops 0x01C1 start [] (.optionUndescribed 0xC1#8) = true := by
  decide +kernel

theorem test_v27_clc :
    gives 0x01C4 { start with cf := true, zf := true } []
      (fun t => !t.cf && t.pc == 0x102#17 && t.zf) = true := by
  decide +kernel

theorem test_v28_pmemacc :
    gives 0x01C8 start []
      (fun t => t.pa && t.pc == 0x102#17 && !t.cf && !t.zf) = true := by
  decide +kernel

theorem test_v31_int_15_with_ef_0 :
    gives 0x01DF start []
      (fun t => t.inInt && t.pc == 0x102#17 && t.ic == 0x3E#17 && !t.cf && !t.zf) = true := by
  decide +kernel

theorem test_v32_int_0_inside_a_routine :
    stops 0x01D0 { start with inInt := true, ic := 0x40#17 } [] .intInInterrupt = true := by
  decide +kernel

theorem test_v33_disable :
    gives 0x01E0 { start with ef := true } []
      (fun t => !t.ef && t.pc == 0x102#17 && !t.cf && !t.zf) = true := by
  decide +kernel

theorem test_v34_enable :
    gives 0x01E1 start []
      (fun t => t.ef && t.pc == 0x102#17 && !t.cf && !t.zf) = true := by
  decide +kernel

theorem test_v35_inputa :
    gives 0x01F1 { start with c := 0x5#8, portScript := [0x3C#8] } []
      (fun t => t.a == 0x3C#8 && t.pc == 0x102#17 && !t.cf && !t.zf) = true := by
  decide +kernel

theorem test_v36_outputb :
    gives 0x01F2 { start with c := 0x5#8, b := 0xA5#8 } []
      (fun t => t.events == [.output 5#8 0xA5#8] && t.pc == 0x102#17 && !t.cf && !t.zf) = true := by
  decide +kernel

theorem test_v37_inout :
    gives 0x01F3 { start with c := 0x1#8, b := 0xFF#8, portScript := [0x10#8] } []
      (fun t => t.events == [.output 1#8 0xFF#8, .input 1#8 0x10#8] && t.a == 0x10#8 && t.pc == 0x102#17 && !t.cf &&
        !t.zf) = true := by
  decide +kernel

theorem test_v40_ld_b_ffh :
    gives 0x03FF start []
      (fun t => t.b == 0xFF#8 && t.pc == 0x102#17 && !t.cf && !t.zf) = true := by
  decide +kernel

theorem test_v41_ld_c_7fh_no_memory_access :
    gives 0x047F { start with uf := true } []
      (fun t => t.c == 0x7F#8 && t.pc == 0x102#17 && !t.cf && !t.zf) = true := by
  decide +kernel

theorem test_v42_setflag_10h :
    gives 0x0510 start [(16, 0x89#8)]
      (fun t => t.cf && t.zf && t.ofs == 1#2 && t.pc == 0x102#17) = true := by
  decide +kernel

theorem test_v44_setflag_10h_with_bit_1_set_mf_0 :
    stops 0x0510 start [(16, 0x02#8)] .setflagChangesMf = true := by
  decide +kernel

theorem test_v45_setflag_a :
    gives 0x057F { start with a := 0x3#8, b := 0x4#8 } [(772, 0x1D#8)]
      (fun t => t.zf && t.ofs == 3#2 && t.uf && t.pc == 0x102#17 && !t.cf) = true := by
  decide +kernel

theorem test_v46_getflag_20h :
    gives 0x0D20 { start with cf := true, ofs := 2#2, zf := true } []
      (fun t => t.pc == 0x102#17 && t.mem.get? 288 == some 0x91#8 && t.cf && t.zf) = true := by
  decide +kernel

theorem test_v47_getflag_20h_in_routine :
    gives 0x0D20 { start with inInt := true, ofs := 3#2, uf := true, mf := true, ic := 0x40#17 } []
      (fun t => t.ic == 0x42#17 && t.mem.get? 32 == some 0x1E#8 && !t.cf && !t.zf) = true := by
  decide +kernel

theorem test_v48_st_10h_a :
    gives 0x0610 { start with a := 0x5A#8 } []
      (fun t => t.pc == 0x102#17 && t.mem.get? 16 == some 0x5A#8 && !t.cf && !t.zf) = true := by
  decide +kernel

theorem test_v50_st_10h_a_with_of_2_in_routine :
    gives 0x0610 { start with a := 0x5A#8, ofs := 2#2, inInt := true, ic := 0x40#17 } []
      (fun t => t.ic == 0x42#17 && t.mem.get? 16 == some 0x5A#8 && !t.cf && !t.zf) = true := by
  decide +kernel

theorem test_v52_roopshlc :
    stops 0x067F start [] (.undecidedInstruction 0x06#6) = true := by
  decide +kernel

theorem test_v53_st_11h_b :
    gives 0x0711 { start with b := 0x7#8 } []
      (fun t => t.pc == 0x102#17 && t.mem.get? 17 == some 0x07#8 && !t.cf && !t.zf) = true := by
  decide +kernel

theorem test_v55_zero_2 :
    gives 0x0782 { start with b := 0x10#8 } [(528, 0xFF#8)]
      (fun t => t.pc == 0x102#17 && t.mem.get? 528 == some 0x00#8 && !t.cf && !t.zf) = true := by
  decide +kernel

theorem test_v57_st_7eh_c_with_of_3 :
    gives 0x0B7E { start with c := 0x44#8, ofs := 3#2 } []
      (fun t => t.pc == 0x102#17 && t.mem.get? 510 == some 0x44#8 && !t.cf && !t.zf) = true := by
  decide +kernel

theorem test_v58_shl_10h :
    gives 0x0810 { start with zf := true } [(16, 0x81#8)]
      (fun t => t.cf && t.pc == 0x102#17 && t.mem.get? 16 == some 0x02#8 && t.zf) = true := by
  decide +kernel

theorem test_v61_shr_a :
    gives 0x097F { start with a := 0x2#8, cf := true } [(512, 0x80#8)]
      (fun t => !t.cf && t.pc == 0x102#17 && t.mem.get? 512 == some 0x40#8 && !t.zf) = true := by
  decide +kernel

theorem test_v62_shlc_10h :
    gives 0x2810 { start with cf := true } [(16, 0x80#8)]
      (fun t => t.pc == 0x102#17 && t.mem.get? 16 == some 0x01#8 && t.cf && !t.zf) = true := by
  decide +kernel

theorem test_v64_shrc_10h :
    gives 0x2910 { start with cf := true } [(16, 0x01#8)]
      (fun t => t.pc == 0x102#17 && t.mem.get? 16 == some 0x80#8 && t.cf && !t.zf) = true := by
  decide +kernel

theorem test_v66_and_10h_a :
    gives 0x0A10 { start with a := 0x3C#8 } [(16, 0xF0#8)]
      (fun t => t.pc == 0x102#17 && t.mem.get? 16 == some 0x30#8 && !t.cf && !t.zf) = true := by
  decide +kernel

theorem test_v67_and_a :
    gives 0x0A7F { start with a := 0x2#8, b := 0x1#8, c := 0xF#8 } [(513, 0xF0#8)]
      (fun t => t.zf && t.pc == 0x102#17 && t.mem.get? 513 == some 0x00#8 && !t.cf) = true := by
  decide +kernel

theorem test_v69_xor_a :
    gives 0x0C7F { start with a := 0x2#8, b := 0x1#8, c := 0xFF#8 } [(513, 0x0F#8)]
      (fun t => t.pc == 0x102#17 && t.mem.get? 513 == some 0xF0#8 && !t.cf && !t.zf) = true := by
  decide +kernel

theorem test_v71_or_2 :
    gives 0x0E82 { start with b := 0x3#8 } [(515, 0x00#8)]
      (fun t => t.zf && t.pc == 0x102#17 && !t.cf) = true := by
  decide +kernel

theorem test_v73_jmp_121 :
    gives 0x1079 start []
      (fun t => t.pc == 0xF2#17 && !t.cf && !t.zf) = true := by
  decide +kernel

theorem test_v74_jmp_121_jsig121_option_on_signal_0 :
    gives 0x1079 { start with cfg := { Config.default with jsig121Enabled := true } } []
      (fun t => t.pc == 0x102#17 && !t.cf && !t.zf) = true := by
  decide +kernel

theorem test_v75_jmpc0_a :
    gives 0x107A { start with a := 0x1#8 } []
      (fun t => t.pc == 0x200#17 && !t.cf && !t.zf) = true := by
  decide +kernel

theorem test_v77_jmpc1_a :
    gives 0x107B { start with b := 0x40#8, cf := true } []
      (fun t => t.pc == 0x80#17 && t.cf && !t.zf) = true := by
  decide +kernel

theorem test_v78_jmpz0_a :
    gives 0x107C { start with b := 0x40#8 } []
      (fun t => t.pc == 0x80#17 && !t.cf && !t.zf) = true := by
  decide +kernel

theorem test_v79_jmpz1_a :
    gives 0x107D { start with b := 0x40#8 } []
      (fun t => t.pc == 0x102#17 && !t.cf && !t.zf) = true := by
  decide +kernel

theorem test_v82_jmp_a :
    gives 0x107F { start with a := 0x12#8, b := 0x34#8 } []
      (fun t => t.pc == 0x468#17 && !t.cf && !t.zf) = true := by
  decide +kernel

theorem test_v83_jmp_1 :
    gives 0x1081 { start with b := 0x10#8 } []
      (fun t => t.pc == 0x220#17 && !t.cf && !t.zf) = true := by
  decide +kernel

theorem test_v84_bal_100 :
    gives 0x1164 { start with pc := 0x10#17 } []
      (fun t => t.b == 0x9#8 && t.pc == 0xC8#17 && !t.cf && !t.zf) = true := by
  decide +kernel

theorem test_v85_balc0_a :
    gives 0x117A { start with a := 0x1#8, pc := 0x20#17 } []
      (fun t => t.a == 0x0#8 && t.b == 0x11#8 && t.pc == 0x200#17 && !t.cf && !t.zf) = true := by
  decide +kernel

theorem test_v86_balc1_a :
    gives 0x117B { start with a := 0x1#8, pc := 0x20#17 } []
      (fun t => t.pc == 0x22#17 && !t.cf && !t.zf) = true := by
  decide +kernel

theorem test_v88_bal_a :
    gives 0x117F { start with a := 0x2#8, pc := 0x40#17 } []
      (fun t => t.a == 0x0#8 && t.b == 0x21#8 && t.pc == 0x400#17 && !t.cf && !t.zf) = true := by
  decide +kernel

theorem test_v89_bal_1 :
    gives 0x1181 { start with b := 0x8#8, pc := 0x50#17 } []
      (fun t => t.b == 0x29#8 && t.pc == 0x210#17 && !t.cf && !t.zf) = true := by
  decide +kernel

theorem test_v93_jr_127 :
    gives 0x1281 start []
      (fun t => t.pc == 0x4#17 && !t.cf && !t.zf) = true := by
  decide +kernel

theorem test_v95_jr_b_b_feh :
    gives 0x1280 { start with b := 0xFE#8 } []
      (fun t => t.pc == 0xFE#17 && !t.cf && !t.zf) = true := by
  decide +kernel

theorem test_v96_jr_127 :
    stops 0x127F start [] (.unusableOffset 0x12#6) = true := by
  decide +kernel

theorem test_v97_jr_3_at_0002h_wrap :
    gives 0x12FD { start with pc := 0x2#17 } []
      (fun t => t.pc == 0xFFE#17 && !t.cf && !t.zf) = true := by
  decide +kernel

theorem test_v98_br_16 :
    gives 0x1310 start []
      (fun t => t.b == 0x81#8 && t.pc == 0x122#17 && !t.cf && !t.zf) = true := by
  decide +kernel

theorem test_v99_br_b_b_02h :
    gives 0x1380 { start with b := 0x2#8 } []
      (fun t => t.b == 0x81#8 && t.pc == 0x106#17 && !t.cf && !t.zf) = true := by
  decide +kernel

theorem test_v102_brc0_2_cf_0 :
    gives 0x1502 start []
      (fun t => t.b == 0x81#8 && t.pc == 0x106#17 && !t.cf && !t.zf) = true := by
  decide +kernel

theorem test_v104_brc1_2_cf_0 :
    gives 0x1702 { start with a := 0x7#8, b := 0x7#8 } []
      (fun t => t.pc == 0x102#17 && !t.cf && !t.zf) = true := by
  decide +kernel

theorem test_v106_brz0_4_zf_0 :
    gives 0x1904 start []
      (fun t => t.b == 0x81#8 && t.pc == 0x10A#17 && !t.cf && !t.zf) = true := by
  decide +kernel

theorem test_v109_brz1_2_zf_1 :
    gives 0x1B02 { start with zf := true } []
      (fun t => t.b == 0x81#8 && t.pc == 0x106#17 && !t.cf && t.zf) = true := by
  decide +kernel

theorem test_v110_jr_2_in_millicode :
    gives 0x1202 { start with mf := true, pc := 0x122#17, mc := 0x210#17 } []
      (fun t => t.mc == 0x216#17 && !t.cf && !t.zf) = true := by
  decide +kernel

theorem test_v111_in_30h :
    gives 0x1D30 { start with c := 0x2#8, portScript := [0x7E#8] } []
      (fun t => t.pc == 0x102#17 && t.mem.get? 48 == some 0x7E#8 && !t.cf && !t.zf) = true := by
  decide +kernel

theorem test_v112_out_2 :
    gives 0x1E82 { start with c := 0x3#8, b := 0x10#8 } [(528, 0x99#8)]
      (fun t => t.events == [.output 3#8 0x99#8] && t.pc == 0x102#17 && !t.cf && !t.zf) = true := by
  decide +kernel

theorem test_v114_reti_7eh_restoring_mf_uf_of :
    gives 0x1F7E { start with inInt := true, pc := 0x108#17, mc := 0x214#17, ic := 0x60#17 } [(126, 0x1F#8)]
      (fun t => t.zf && t.ofs == 3#2 && t.uf && t.mf && !t.inInt && t.ic == 0x62#17 && !t.cf) = true := by
  decide +kernel

theorem test_v115_reti_10h_with_if_0 :
    stops 0x1F10 start [] .retiOutsideInterrupt = true := by
  decide +kernel

theorem test_v116_reti_xx_7fh :
    stops 0x1F7F { start with inInt := true, ic := 0x60#17 } [] (.reservedEncoding 0x1F#6 0x7F#8) = true := by
  decide +kernel

theorem test_v118_inc_10h :
    gives 0x2010 start [(16, 0xFF#8)]
      (fun t => t.cf && t.zf && t.pc == 0x102#17 && t.mem.get? 16 == some 0x00#8) = true := by
  decide +kernel

theorem test_v119_incc_10h_cf_1 :
    gives 0x2110 { start with cf := true } [(16, 0x10#8)]
      (fun t => !t.cf && t.pc == 0x102#17 && t.mem.get? 16 == some 0x11#8 && !t.zf) = true := by
  decide +kernel

theorem test_v121_incc_10h_cf_1 :
    gives 0x2110 { start with cf := true } [(16, 0xFF#8)]
      (fun t => t.zf && t.pc == 0x102#17 && t.mem.get? 16 == some 0x00#8 && t.cf) = true := by
  decide +kernel

theorem test_v122_incx_10h :
    gives 0x2210 { start with a := 0x12#8, b := 0x34#8 } [(16, 0xFF#8)]
      (fun t => t.a == 0xFF#8 && t.b == 0x12#8 && t.cf && t.zf && t.pc == 0x102#17 && t.mem.get? 16 == some 0x00#8) = true := by
  decide +kernel

theorem test_v123_incxc_11h_cf_1 :
    gives 0x2311 { start with a := 0xFF#8, b := 0x12#8, cf := true } [(17, 0x01#8)]
      (fun t => t.a == 0x1#8 && t.b == 0xFF#8 && !t.cf && t.pc == 0x102#17 && t.mem.get? 17 == some 0x02#8 && !t.zf) = true := by
  decide +kernel

theorem test_v124_incx_a :
    gives 0x227F { start with a := 0x2#8, b := 0x3#8 } [(515, 0x07#8)]
      (fun t => t.a == 0x7#8 && t.b == 0x2#8 && t.pc == 0x102#17 && t.mem.get? 515 == some 0x08#8 && !t.cf && !t.zf) = true := by
  decide +kernel

theorem test_v125_add_10h_a :
    gives 0x2410 { start with a := 0xCD#8 } [(16, 0x34#8)]
      (fun t => t.cf && t.pc == 0x102#17 && t.mem.get? 16 == some 0x01#8 && !t.zf) = true := by
  decide +kernel

theorem test_v126_add_a :
    gives 0x247F { start with a := 0x2#8, c := 0x1#8 } [(512, 0xFF#8)]
      (fun t => t.cf && t.zf && t.pc == 0x102#17 && t.mem.get? 512 == some 0x00#8) = true := by
  decide +kernel

theorem test_v127_addc_10h_a_cf_1 :
    gives 0x2510 { start with a := 0xAB#8, cf := true } [(16, 0x12#8)]
      (fun t => !t.cf && t.pc == 0x102#17 && t.mem.get? 16 == some 0xBE#8 && !t.zf) = true := by
  decide +kernel

theorem test_v128_add_a_c :
    gives 0x267F { start with a := 0xF0#8, c := 0x20#8 } []
      (fun t => t.a == 0x10#8 && t.cf && t.pc == 0x102#17 && !t.zf) = true := by
  decide +kernel

theorem test_v130_addc_a_10h_cf_1 :
    gives 0x2710 { start with a := 0xFF#8, cf := true } [(16, 0x00#8)]
      (fun t => t.a == 0x0#8 && t.zf && t.pc == 0x102#17 && t.cf) = true := by
  decide +kernel

theorem test_v131_addc_a_1 :
    gives 0x2781 { start with a := 0x1#8, b := 0x2#8 } [(258, 0x7F#8)]
      (fun t => t.a == 0x80#8 && t.pc == 0x102#17 && !t.cf && !t.zf) = true := by
  decide +kernel

theorem test_v133_dec_10h :
    gives 0x3010 start [(16, 0x00#8)]
      (fun t => t.cf && t.pc == 0x102#17 && t.mem.get? 16 == some 0xFF#8 && !t.zf) = true := by
  decide +kernel

theorem test_v135_decc_10h_cf_1 :
    gives 0x3110 { start with cf := true } [(16, 0x00#8)]
      (fun t => t.pc == 0x102#17 && t.mem.get? 16 == some 0xFF#8 && t.cf && !t.zf) = true := by
  decide +kernel

theorem test_v137_decx_10h :
    gives 0x3210 { start with a := 0x12#8, b := 0x34#8 } [(16, 0x00#8)]
      (fun t => t.a == 0x0#8 && t.b == 0x12#8 && t.cf && t.pc == 0x102#17 && t.mem.get? 16 == some 0xFF#8 && !t.zf) = true := by
  decide +kernel

theorem test_v138_decxc_11h_cf_1 :
    gives 0x3311 { start with b := 0x12#8, cf := true } [(17, 0x02#8)]
      (fun t => t.a == 0x2#8 && t.b == 0x0#8 && !t.cf && t.pc == 0x102#17 && t.mem.get? 17 == some 0x01#8 && !t.zf) = true := by
  decide +kernel

theorem test_v139_sub_10h_a :
    gives 0x3410 { start with a := 0x7#8 } [(16, 0x05#8)]
      (fun t => t.cf && t.pc == 0x102#17 && t.mem.get? 16 == some 0xFE#8 && !t.zf) = true := by
  decide +kernel

theorem test_v141_sub_a :
    gives 0x347F { start with a := 0x2#8, c := 0x10#8 } [(512, 0x30#8)]
      (fun t => t.pc == 0x102#17 && t.mem.get? 512 == some 0x20#8 && !t.cf && !t.zf) = true := by
  decide +kernel

theorem test_v142_subc_10h_a_cf_1 :
    gives 0x3510 { start with a := 0xF#8, cf := true } [(16, 0x10#8)]
      (fun t => !t.cf && t.zf && t.pc == 0x102#17 && t.mem.get? 16 == some 0x00#8) = true := by
  decide +kernel

theorem test_v144_sub_a_10h :
    gives 0x3610 { start with a := 0x7#8 } [(16, 0x05#8)]
      (fun t => t.a == 0xFE#8 && t.cf && t.pc == 0x102#17 && !t.zf) = true := by
  decide +kernel

theorem test_v146_sub_a_c :
    gives 0x367F { start with a := 0x1#8 } []
      (fun t => t.a == 0xFF#8 && t.cf && t.pc == 0x102#17 && !t.zf) = true := by
  decide +kernel

theorem test_v147_subc_a_c_cf_1 :
    gives 0x377F { start with a := 0xF#8, c := 0x10#8, cf := true } []
      (fun t => t.a == 0x0#8 && !t.cf && t.zf && t.pc == 0x102#17) = true := by
  decide +kernel

theorem test_v149_ld_a_a :
    gives 0x2A7F { start with a := 0x1#8, b := 0x2#8, zf := true } [(258, 0x77#8)]
      (fun t => t.a == 0x77#8 && t.pc == 0x102#17 && !t.cf && t.zf) = true := by
  decide +kernel

theorem test_v150_ld_b_3 :
    gives 0x2B83 { start with b := 0x5#8 } [(773, 0x09#8)]
      (fun t => t.b == 0x9#8 && t.pc == 0x102#17 && !t.cf && !t.zf) = true := by
  decide +kernel

theorem test_v151_ld_c_20h :
    gives 0x2C20 start [(32, 0x04#8)]
      (fun t => t.c == 0x4#8 && t.pc == 0x102#17 && !t.cf && !t.zf) = true := by
  decide +kernel

theorem test_v153_stacp_1 :
    gives 0x2D81 { start with a := 0x3#8, b := 0x10#8, c := 0x20#8 } [(272, 0x5A#8)]
      (fun t => t.b == 0x11#8 && t.c == 0x21#8 && t.pc == 0x102#17 && t.mem.get? 800 == some 0x5A#8 && !t.cf && !t.zf) = true := by
  decide +kernel

theorem test_v154_stacp_a :
    gives 0x2D7F { start with a := 0x3#8, b := 0xFF#8, c := 0xFF#8 } [(1023, 0x21#8)]
      (fun t => t.b == 0x0#8 && t.c == 0x0#8 && t.pc == 0x102#17 && !t.cf && !t.zf) = true := by
  decide +kernel

theorem test_v155_stab_10h :
    gives 0x2E10 { start with a := 0x2#8, b := 0x5#8 } [(16, 0x33#8)]
      (fun t => t.pc == 0x102#17 && t.mem.get? 517 == some 0x33#8 && !t.cf && !t.zf) = true := by
  decide +kernel

theorem test_v156_stac_a :
    gives 0x2E7F { start with a := 0x2#8, b := 0x5#8, c := 0x6#8 } [(517, 0x44#8)]
      (fun t => t.pc == 0x102#17 && t.mem.get? 518 == some 0x44#8 && !t.cf && !t.zf) = true := by
  decide +kernel

theorem test_v157_stab_1 :
    gives 0x2E81 { start with a := 0x2#8, b := 0x5#8 } [(261, 0x45#8)]
      (fun t => t.pc == 0x102#17 && t.mem.get? 517 == some 0x45#8 && !t.cf && !t.zf) = true := by
  decide +kernel

theorem test_v158_stabp_10h :
    gives 0x2F10 { start with a := 0x2#8, b := 0xFF#8 } [(16, 0x33#8)]
      (fun t => t.b == 0x0#8 && t.pc == 0x102#17 && t.mem.get? 767 == some 0x33#8 && !t.cf && !t.zf) = true := by
  decide +kernel

theorem test_v159_stzcp_a :
    gives 0x2F7F { start with a := 0x4#8, c := 0x80#8 } [(1024, 0x11#8)]
      (fun t => t.b == 0x1#8 && t.c == 0x81#8 && t.pc == 0x102#17 && t.mem.get? 128 == some 0x11#8 && !t.cf && !t.zf) = true := by
  decide +kernel

theorem test_v160_loopdec_2_c_2 :
    gives 0x38FE { start with c := 0x2#8, b := 0x10#8, pc := 0x104#17 } []
      (fun t => t.b == 0xF#8 && t.c == 0x1#8 && t.pc == 0x102#17 && !t.cf && !t.zf) = true := by
  decide +kernel

theorem test_v161_loopdec_2_c_0 :
    gives 0x38FE { start with b := 0x10#8, pc := 0x104#17 } []
      (fun t => t.pc == 0x106#17 && !t.cf && !t.zf) = true := by
  decide +kernel

theorem test_v164_loopdec_b :
    stops 0x3880 { start with c := 0x1#8, b := 0xFD#8 } [] .loopBAbsent = true := by
  decide +kernel

theorem test_v165_loopdec_b_option_on :
    gives 0x3880 { start with cfg := { Config.default with loopB := true }, c := 0x1#8, b := 0xFD#8 } []
      (fun t => t.b == 0xFC#8 && t.c == 0x0#8 && t.pc == 0xFC#17 && !t.cf && !t.zf) = true := by
  decide +kernel

theorem test_v167_loopinc_1_c_1 :
    gives 0x3901 { start with c := 0x1#8, b := 0xFF#8 } []
      (fun t => t.b == 0x0#8 && t.c == 0x0#8 && t.pc == 0x104#17 && !t.cf && !t.zf) = true := by
  decide +kernel

theorem test_v169_loopzero_c_0 :
    gives 0x3900 { start with a := 0x2#8, b := 0xFE#8 } [(766, 0xAA#8)]
      (fun t => t.pc == 0x102#17 && !t.cf && !t.zf) = true := by
  decide +kernel

theorem test_v173_loopshlc_c_1_cf_1_in :
    gives 0x397F { start with a := 0x3#8, c := 0x1#8, cf := true } [(768, 0x7F#8)]
      (fun t => t.b == 0x1#8 && t.c == 0x0#8 && !t.cf && t.mem.get? 768 == some 0xFF#8 && !t.zf) = true := by
  decide +kernel

theorem test_v175_loopinc_b_option_on :
    gives 0x3980 { start with cfg := { Config.default with loopB := true }, c := 0x2#8, b := 0x3#8 } []
      (fun t => t.b == 0x4#8 && t.c == 0x1#8 && t.pc == 0x108#17 && !t.cf && !t.zf) = true := by
  decide +kernel

theorem test_v177_and_a_c :
    gives 0x3A7F { start with a := 0xF0#8, c := 0x3C#8 } []
      (fun t => t.a == 0x30#8 && t.pc == 0x102#17 && !t.cf && !t.zf) = true := by
  decide +kernel

theorem test_v178_and_a_10h :
    gives 0x3A10 { start with a := 0xF#8, cf := true } [(16, 0xF0#8)]
      (fun t => t.a == 0x0#8 && t.zf && t.pc == 0x102#17 && t.cf) = true := by
  decide +kernel

theorem test_v180_and_a_80h :
    gives 0x3B80 { start with a := 0x1#8 } []
      (fun t => t.a == 0x0#8 && t.zf && t.pc == 0x102#17 && !t.cf) = true := by
  decide +kernel

theorem test_v182_xor_a_c :
    gives 0x3C7F { start with a := 0xAA#8, c := 0xFF#8 } []
      (fun t => t.a == 0x55#8 && t.pc == 0x102#17 && !t.cf && !t.zf) = true := by
  decide +kernel

theorem test_v183_xor_a_ffh :
    gives 0x3DFF { start with a := 0xF#8 } []
      (fun t => t.a == 0xF0#8 && t.pc == 0x102#17 && !t.cf && !t.zf) = true := by
  decide +kernel

theorem test_v184_or_a_3 :
    gives 0x3E83 { start with a := 0x1#8, b := 0x2#8 } [(770, 0x80#8)]
      (fun t => t.a == 0x81#8 && t.pc == 0x102#17 && !t.cf && !t.zf) = true := by
  decide +kernel

theorem test_v185_or_a_c :
    gives 0x3E7F start []
      (fun t => t.zf && t.pc == 0x102#17 && !t.cf) = true := by
  decide +kernel

theorem test_v187_or_a_7fh_immediate_not_a :
    gives 0x3F7F { start with a := 0x80#8 } []
      (fun t => t.a == 0xFF#8 && t.pc == 0x102#17 && !t.cf && !t.zf) = true := by
  decide +kernel

theorem test_v189_macro_3fh_ffh_with_of_1 :
    gives 0x7FFF { start with ofs := 1#2, pc := 0x120#17 } []
      (fun t => t.c == 0xFF#8 && t.mf && t.pc == 0x122#17 && t.mc == 0x5F0#17 && t.mem.get? 128 == some 0xFF#8 && !t.cf &&
        !t.zf) = true := by
  decide +kernel

theorem test_v192_setpc_end :
    gives 0x4124 { start with mf := true, pc := 0x102#17, b := 0x40#8, mc := 0x212#17 } []
      (fun t => !t.mf && t.pc == 0x80#17 && t.mc == 0x214#17 && !t.cf && !t.zf) = true := by
  decide +kernel

theorem test_v196_st_1 :
    gives 0x8681 { start with cfg := { Config.default with opmsbMode := .fast }, a := 0x5A#8, b := 0x10#8 } []
      (fun t => t.b == 0x11#8 && t.pc == 0x102#17 && t.mem.get? 272 == some 0x5A#8 && !t.cf && !t.zf) = true := by
  decide +kernel

theorem test_v198_stabp_with_opmsb_fast :
    stops 0xAF10 { start with cfg := { Config.default with opmsbMode := .fast } } [] .opmsbOnStepperOfB = true := by
  decide +kernel

theorem test_v199_ld_a_a :
    gives 0x2A7F { start with uf := true, a := 0x1#8, b := 0x2#8 } [(258, 0x77#8)]
      (fun t => t.ae && t.pc == 0x102#17 && !t.cf && !t.zf) = true := by
  decide +kernel

theorem test_v200_ld_a_10h_in_user_mode_direct :
    gives 0x2A10 { start with uf := true } [(16, 0x77#8)]
      (fun t => t.a == 0x77#8 && t.pc == 0x102#17 && !t.cf && !t.zf) = true := by
  decide +kernel

theorem test_v201_st_1 :
    gives 0x0681 { start with uf := true, a := 0x5A#8, b := 0x4#8 } [(260, 0x11#8)]
      (fun t => t.ae && t.pc == 0x102#17 && !t.cf && !t.zf && t.mem.get? 0x104 == some 0x11#8) = true := by
  decide +kernel

theorem test_v202_st_3 :
    gives 0x0683 { start with cfg := { Config.default with userLimit := 512 }, uf := true, a := 0x5A#8, b := 0x4#8 } []
      (fun t => t.pc == 0x102#17 && t.mem.get? 772 == some 0x5A#8 && !t.cf && !t.zf) = true := by
  decide +kernel

theorem test_v207_stacp_10h_in_user_mode_write_restr :
    gives 0x2D10 { start with uf := true, a := 0x3#8, c := 0x20#8 } [(16, 0x5A#8)]
      (fun t => t.b == 0x1#8 && t.c == 0x21#8 && t.ae && t.pc == 0x102#17 && !t.cf && !t.zf) = true := by
  decide +kernel

theorem test_v208_loopzero_in_user_mode_c_1 :
    gives 0x3900 { start with uf := true, a := 0x3#8, c := 0x1#8 } [(768, 0x77#8)]
      (fun t => t.b == 0x1#8 && t.c == 0x0#8 && t.ae && !t.cf && !t.zf) = true := by
  decide +kernel

theorem test_v211_boundary :
    gives 0x0000 { start with ef := true, lineScript := [⟨true, false, false⟩] } []
      (fun t => t.inInt && t.ic == 0x20#17 && !t.cf && !t.zf) = true := by
  decide +kernel

theorem test_v212_boundary :
    gives 0x0000 { start with ef := true, lineScript := [⟨true, true, false⟩] } []
      (fun t => t.inInt && t.ic == 0x20#17 && !t.cf && !t.zf) = true := by
  decide +kernel

theorem test_v213_boundary :
    gives 0x0000 { start with ef := true, lineScript := [⟨false, true, false⟩] } []
      (fun t => t.inInt && t.ic == 0x3E#17 && !t.cf && !t.zf) = true := by
  decide +kernel

theorem test_v214_boundary :
    gives 0x0000 { start with ef := true, ae := true } []
      (fun t => t.inInt && t.ic == 0x3E#17 && !t.cf && !t.zf) = true := by
  decide +kernel

theorem test_v215_boundary :
    gives 0x0000 { start with lineScript := [⟨true, false, false⟩] } []
      (fun t => t.pc == 0x102#17 && !t.cf && !t.zf) = true := by
  decide +kernel

theorem test_v217_boundary_in_millicode :
    gives 0x0000 { start with ef := true, mf := true, pc := 0x122#17, mc := 0x210#17, lineScript := [⟨false, true, false⟩] } []
      (fun t => t.inInt && t.ic == 0x3E#17 && !t.cf && !t.zf) = true := by
  decide +kernel

theorem test_v218_ld_a_4_half :
    gives 0x2A04 { start with cfg := { Config.default with memModel := .half } } [(4, 0x11#8), (1028, 0x22#8)]
      (fun t => t.a == 0x22#8 && t.pc == 0x102#17 && !t.cf && !t.zf) = true := by
  decide +kernel

theorem test_v222_st_a :
    stops 0x0B7F { start with a := 0x1#8, b := 0x2#8 } [] (.storeIntoNext 258) = true := by
  decide +kernel

theorem test_v223_st_a :
    gives 0x0B7F { start with a := 0x1#8, b := 0x4#8, c := 0x55#8 } []
      (fun t => t.pc == 0x102#17 && t.mem.get? 260 == some 0x55#8 && !t.cf && !t.zf) = true := by
  decide +kernel

theorem test_v224_nop_at_top_of_program_space_w_12_m :
    gives 0x0000 { start with cfg := { Config.default with memBytes := 4096 }, pc := 0xFFE#17 } []
      (fun t => t.pc == 0x0#17 && !t.cf && !t.zf) = true := by
  decide +kernel



/-! ### Witnesses: concrete states that meet the hypotheses of the statements, each clause at a boundary of its range -/

/-- The outcome is a next state that `p` accepts. -/
def answers (o : Host.Outcome State Fault Refusal) (p : State → Bool) : Bool :=
  match o with
  | .next t => p t
  | .fault _ => false
  | .refused _ => false

theorem answers_next {o : Host.Outcome State Fault Refusal} {p : State → Bool} (h : answers o p = true) :
    ∃ t, o = .next t ∧ p t = true := by
  cases o with
  | next t => exact ⟨t, rfl, h⟩
  | fault f => cases h
  | refused r => cases h

/-- [A:B], [7:B] and [A:C] at 07FFh, the last byte of the memory and the last below USER_LIMIT; [C] at FFh. -/
def plain : State := { start with a := 0x07#8, b := 0xFF#8, c := 0xFF#8 }

/-- `plain` in user mode: every pointer access is restricted. -/
def limited : State := { plain with uf := true }

/-- `limited` with PMEMACC pending: every write is suppressed. -/
def pending : State := { limited with pa := true }

/-- `plain` in an interrupt routine. -/
def routine : State := { plain with inInt := true, ic := 0x20#17 }

/-- `plain` in millicode. -/
def milli : State := { plain with mf := true, mc := 0x200#17 }

/-- `plain` in opmsb mode FAST. -/
def fast : State := { plain with cfg := { Config.default with opmsbMode := .fast } }

/-- Accesses through the forms are carried out in the three modes. -/
def CarriedOut (forms : List Operand) : Prop :=
  ∀ s ∈ [plain, limited, pending], ∀ o ∈ forms, s.readable o ∧ s.writable o

theorem witness_DecodeEncodeRoundTrip :
    [Instr.reti 126#7, .jmpM 121#7, .clearK 2#4, .jrFwd 0x7E#8, .jrBack 0x81#8, .loopdecFwd 1#8].all (·.wf) = true := by
  decide

theorem witness_BytesInStorageOrder : (Instr.rsv01From04 0x1F#8).wf = true ∧ (Instr.opmsb true 63#6 0xFF#8).wf = true := by
  decide

theorem witness_OpcodeMap :
    (0#7 ≠ 127#7 ∧ 126#7 ≠ 127#7) ∧ (1 ≤ (0x01#8).toNat ∧ (0x7E#8).toNat ≤ 126) ∧ 129 ≤ (0x81#8).toNat ∧
      (121#7).toNat ≤ 121 := by
  decide

theorem witness_ControlOpcodeMap :
    (0x04 ≤ (0x04#8).toNat ∧ (0x04#8).toNat ≤ 0x1F) ∧ (0xF4 ≤ (0xFF#8).toNat ∧ (0xFF#8).toNat ≤ 0xFF) ∧
      2 ≤ (2#4).toNat := by
  decide

/-- The hypotheses of `Obligations.StepRunsDecodedInstruction` on a state and an instruction. -/
def Runs (s : State) (i : Instr) : Prop :=
  (s.inInt = true ∨ s.ef = false ∨
      (s.sampleLines.lines.int0 = false ∧ s.sampleLines.lines.int1 = false ∧ s.accessError = false)) ∧
    s.cnt.toNat % 2 = 0 ∧ s.cnt.toNat < s.cfg.memBytes ∧ (s.cnt.toNat + 1) % 2 ^ s.cfg.width < s.cfg.memBytes ∧
    s.cfg.opmsbMode ≠ .parity ∧
    decode (s.mem.read ((s.cnt.toNat + 1) % 2 ^ s.cfg.width) ++ s.mem.read s.cnt.toNat) = i

theorem witness_StepRunsDecodedInstruction_last_word : Runs (put 0x0103 { plain with pc := 0x7FE#17 } []) .swap := by
  unfold Runs
  decide +kernel

theorem witness_StepRunsDecodedInstruction_in_routine :
    Runs (put 0x1F7E { routine with ef := true, lineScript := [⟨true, true, false⟩] } []) (.reti 126#7) := by
  unfold Runs
  decide +kernel

theorem witness_StepRunsDecodedInstruction_enabled : Runs (put 0x38FE { milli with ef := true } []) (.loopdecBack 0xFE#8) := by
  unfold Runs
  decide +kernel

theorem witness_FetchStops :
    ({ plain with pc := 1#17 } : State).cnt.toNat % 2 = 1 ∧
      (let s : State := { plain with pc := 0x800#17 }
       s.cnt.toNat % 2 = 0 ∧ s.cfg.memBytes ≤ s.cnt.toNat) ∧
      (let s : State := { plain with pc := 0x7FE#17, cfg := { Config.default with memBytes := 2047 } }
       s.cnt.toNat % 2 = 0 ∧ s.cnt.toNat < s.cfg.memBytes ∧ s.cfg.memBytes ≤ (s.cnt.toNat + 1) % 2 ^ s.cfg.width) ∧
      (let s : State := { plain with cfg := { Config.default with opmsbMode := .parity } }
       s.cnt.toNat % 2 = 0 ∧ s.cnt.toNat < s.cfg.memBytes ∧ (s.cnt.toNat + 1) % 2 ^ s.cfg.width < s.cfg.memBytes ∧
         s.cfg.opmsbMode = .parity) ∧ plain.ef = false := by
  decide +kernel

theorem witness_BoundaryTakesInterrupt :
    (let s : State := { plain with ef := true, lineScript := [⟨true, true, false⟩] }
     9 ≤ s.cfg.width ∧ s.inInt = false ∧ s.ef = true ∧ s.sampleLines.lines.int0 = true) ∧
      (let s : State := { plain with ef := true, lineScript := [⟨false, true, false⟩] }
       s.sampleLines.lines.int0 = false ∧ s.sampleLines.lines.int1 = true) ∧
      let s : State := { plain with ef := true, ae := true }
      s.sampleLines.lines.int0 = false ∧ s.sampleLines.lines.int1 = false ∧ s.accessError = true := by
  decide +kernel

theorem witness_NoNestedInterrupt :
    routine.inInt = true ∧ ∃ t, exec (.reti 0#7)
        { routine with ef := true, mem := [(0, 0x00#8)], lineScript := [⟨false, true, false⟩] } = .next t ∧
      decide (t.ef = true ∧ t.sampleLines.lines.int1 = true) = true :=
  ⟨by decide, answers_next (by decide +kernel)⟩

theorem witness_InterruptEntryAndVectors : 9 ≤ { Config.default with width := 9 }.width := by
  decide

theorem witness_InInterruptBit :
    (∃ t, exec (.int 15#4) plain = .next t ∧ decide (plain.inInt = false ∧ t.inInt = true) = true) ∧
      ∃ t, exec (.reti 0#7) { routine with mem := [(0, 0xFF#8)] } = .next t ∧
        decide (routine.inInt = true ∧ t.inInt = false) = true :=
  ⟨answers_next (by decide +kernel), answers_next (by decide +kernel)⟩

theorem witness_FlagByteRoundTrip : pending.cfg = milli.cfg ∧ pending.flagByte ≠ milli.flagByte := by
  decide +kernel

theorem witness_DataAccess_models :
    Config.default.memBytes = 16 * 128 ∧
      ([MemModel.tiny, .half, .quarter, .eighth, .sixteenth].map fun m => { Config.default with memModel := m }.memModel) =
        [.tiny, .half, .quarter, .eighth, .sixteenth] := by
  decide

theorem witness_DataAccess_restricted :
    (limited.cfg.hasUserMode = true ∧ limited.uf = true) ∧ (limited.ea .pointer).toNat < limited.cfg.userLimit ∧
      (limited.ea .pageC).toNat < limited.cfg.userLimit ∧ (limited.ea (.indexed 7#7)).toNat < limited.cfg.userLimit := by
  decide +kernel

theorem witness_DataAccess_allowed :
    (¬plain.uf = true ∧ (plain.ea .pointer).toNat + 1 = plain.cfg.memBytes) ∧
      (let s : State := { limited with a := 0x08#8, b := 0x00#8 }
       ¬(s.ea .pointer).toNat < s.cfg.userLimit ∧ s.cfg.memBytes ≤ (s.ea .pointer).toNat) ∧
      (let s : State := { pending with a := 0x08#8, b := 0x00#8 }
       ¬(s.ea .pointer).toNat < s.cfg.userLimit ∧ s.pa = true ∧ s.cfg.hasUserMode = true ∧ s.uf = true) ∧
      (let s : State := { plain with a := 0x01#8, b := 0x01#8 }
       (s.ea .pointer).toNat = (s.cfg.wrap (s.cnt + 1#17)).toNat) ∧
      let s : State := { plain with a := 0x01#8, b := 0x00#8 }
      (s.ea .pointer).toNat = s.cnt.toNat := by
  decide +kernel

theorem witness_MemoryIsAnArray : Memory.wf [(0, 0x01#8), (2047, 0x02#8)] ∧ (2047 : Nat) ≠ 0 := by
  decide

theorem put_inv : (put 0x1005 plain [(0, 0xFF#8)]).Inv := by
  refine ⟨?_, ?_, ?_, ?_, ?_, ?_, ?_, ?_⟩
  · unfold Config.wf; decide +kernel
  · unfold Memory.wf; decide +kernel
  · decide +kernel
  · unfold CounterOk; decide +kernel
  · unfold CounterOk; decide +kernel
  · unfold CounterOk; decide +kernel
  · decide +kernel
  · decide +kernel

theorem witness_StepKeepsInv : (put 0x1005 plain [(0, 0xFF#8)]).Inv ∧
    ∃ t, step (put 0x1005 plain [(0, 0xFF#8)]) = .next t ∧ (t.pc == 0x00A#17) = true :=
  ⟨put_inv, answers_next (by decide +kernel)⟩

theorem witness_ResetInv : Config.default.wf ∧
    { Config.default with width := 9, jraWidth := 8, memBytes := 512, memModel := .half, resetPc := 0x1FE#17 }.wf ∧
      { Config.default with width := 17, jraWidth := 16, memBytes := 196608, memModel := .split 196608, resetPc := 0x1FFFE#17 }.wf := by
  unfold Config.wf
  decide +kernel

theorem witness_StepKeepsParameters :
    (∃ t, step (put 0x2A7F limited []) = .next t ∧ (t.draws == 1) = true) ∧ limited.restricted .pointer = true ∧
      limited.portScript = [] ∧ State.reset.lineScript = [] :=
  ⟨answers_next (by decide +kernel), by decide +kernel, by decide, by decide⟩

theorem witness_EnableFlagWriters :
    (∃ t, exec .enable plain = .next t ∧ t.ef = true) ∧ (∃ t, exec .disable { plain with ef := true } = .next t ∧ (!t.ef) = true) ∧
      (∃ t, exec .getstat { plain with ef := true } = .next t ∧ (t.a == 0x80#8) = true) ∧
        (∃ t, exec .swap { plain with ef := true } = .next t ∧ t.ef = true) ∧ routine.inInt = true :=
  ⟨answers_next (by decide +kernel), answers_next (by decide +kernel), answers_next (by decide +kernel),
    answers_next (by decide +kernel), by decide⟩

theorem witness_AccessErrorSticky :
    (∃ t, exec .clear1 { plain with ae := true } = .next t ∧ (!t.ae) = true) ∧
      (∃ t, exec .stCP limited = .next t ∧ (t.ae && !limited.ae) = true) ∧ limited.storeOperand .stCP = some .pointer ∧
        (∃ t, exec .ldAP limited = .next t ∧ (t.ae && !limited.ae) = true) ∧ limited.readOperand .ldAP = some .pointer ∧
          limited.storeOperand .ldAP = none :=
  ⟨answers_next (by decide +kernel), answers_next (by decide +kernel), by decide +kernel,
    answers_next (by decide +kernel), by decide +kernel, by decide +kernel⟩

theorem witness_RegisterFrame :
    (∃ t, exec (.ldAN 1#8) plain = .next t ∧ (t.a != plain.a) = true) ∧
      (∃ t, exec (.opmsb false 0#6 0#8) fast = .next t ∧ (t.b != fast.b) = true) ∧
        ∃ t, exec (.hardMacro 3#6 5#8) plain = .next t ∧ (t.c != plain.c) = true :=
  ⟨answers_next (by decide +kernel), answers_next (by decide +kernel), answers_next (by decide +kernel)⟩

theorem witness_FlagFrame :
    (∃ t, exec (.hardMacro 0#6 0#8) milli = .next t ∧ (t.mf != milli.mf) = true) ∧
      ∃ t, exec (.setflagD 0#7) { plain with mem := [(0, 0x9D#8)] } = .next t ∧
        (t.cf && t.zf && t.uf && t.ofs == 3#2 && !plain.cf && !plain.zf && !plain.uf && plain.ofs == 0#2) = true :=
  ⟨answers_next (by decide +kernel), answers_next (by decide +kernel)⟩

theorem witness_CounterFrame :
    (∃ t, exec .jmpP plain = .next t ∧ (t.pc != plain.pc) = true) ∧ (∃ t, exec .jmpP milli = .next t ∧ (t.mc != milli.mc) = true) ∧
      (∃ t, exec .jmpP routine = .next t ∧ (t.ic != routine.ic) = true) ∧
        (∃ t, exec .setpc routine = .next t ∧ (t.pc != routine.pc) = true) ∧
          (∃ t, exec .setmc plain = .next t ∧ (t.mc != plain.mc) = true) ∧
            ∃ t, exec (.int 0#4) plain = .next t ∧ (t.ic != plain.ic) = true :=
  ⟨answers_next (by decide +kernel), answers_next (by decide +kernel), answers_next (by decide +kernel),
    answers_next (by decide +kernel), answers_next (by decide +kernel), answers_next (by decide +kernel)⟩

theorem witness_PendingBitFrame :
    (∃ t, exec .pmemacc plain = .next t ∧ t.pa = true) ∧ ∃ t, exec .swap pending = .next t ∧ (!t.pa) = true :=
  ⟨answers_next (by decide +kernel), answers_next (by decide +kernel)⟩

theorem witness_MemoryFrame :
    plain.mem.wf ∧ (∃ t, exec .stCP plain = .next t ∧ (t.mem.get? 2047 == some 0xFF#8) = true) ∧
      plain.storeOperand .stCP = some .pointer ∧ plain.phys (plain.ea .pointer) ≠ 2046 ∧
        plain.phys (plain.ea .pointer) ≠ 2048 ∧ plain.storeOperand .ldAP = none :=
  ⟨by unfold Memory.wf; decide +kernel, answers_next (by decide +kernel), by decide +kernel, by decide +kernel,
    by decide +kernel, by decide +kernel⟩

theorem witness_PortEventFrame :
    (∃ t, exec .inout { plain with portScript := [0x10#8] } = .next t ∧
        (t.events == [.output 0xFF#8 0xFF#8, .input 0xFF#8 0x10#8]) = true) ∧
      plain.ordinary (.opmsb false 0#6 0#8) = .nop 0#8 ∧ (plain.ordinary (.opmsb false 0#6 0#8)).usesPorts = false :=
  ⟨answers_next (by decide +kernel), by decide +kernel, by decide +kernel⟩

theorem witness_UserModeCannotWriteProtected :
    Instr.stCP.wf = true ∧ limited.mem.wf ∧ limited.userMode = true ∧ (∃ t, exec .stCP limited = .next t ∧ t.ae = true) ∧
      (limited.cfg.dataBase + 511 ≤ 511 ∧ 511 < limited.cfg.dataBase + limited.cfg.userLimit) ∧
        (limited.cfg.dataBase + 511 ≤ 2047 ∧ 2047 < limited.cfg.dataBase + limited.cfg.userLimit) :=
  ⟨by decide, by unfold Memory.wf; decide +kernel, by decide +kernel, answers_next (by decide +kernel), by decide +kernel,
    by decide +kernel⟩

theorem witness_UserModeCannotReadProtected :
    let s : State := { limited with mem := [(510, 0x33#8), (511, 0x01#8)] }
    let m : Memory := [(510, 0x33#8), (511, 0x02#8), (2047, 0x03#8)]
    (Instr.ldAD 126#7).wf = true ∧ s.mem.wf ∧ m.wf ∧ s.userMode = true ∧ s.pa = false ∧
      AgreeOutside (s.cfg.dataBase + 511) (s.cfg.dataBase + s.cfg.userLimit) s.mem m := by
  refine ⟨by decide, by unfold Memory.wf; decide +kernel, by unfold Memory.wf; decide +kernel, by decide +kernel,
    by decide +kernel, ?_⟩
  intro p hp
  have h : p < 511 ∨ 2048 ≤ p := hp
  simp only [Memory.read, Memory.get?]
  split_ifs <;> first | rfl | omega

theorem witness_OffsetAndEnableBits :
    (0x44 ≤ (0x44#8).toNat ∧ (0x44#8).toNat ≤ 0x4F) ∧ (0x44 ≤ (0x4F#8).toNat ∧ (0x4F#8).toNat ≤ 0x4F) ∧
      routine.inInt = true ∧ plain.ef = false ∧ plain.inInt = false ∧
        (∃ t, exec .enable { plain with lineScript := [⟨false, true, false⟩] } = .next t ∧ t.sampleLines.lines.int1 = true) ∧
          ∃ t, exec .enable { plain with ae := true } = .next t ∧ t.accessError = true :=
  ⟨by decide, by decide, by decide, by decide, by decide, answers_next (by decide +kernel),
    answers_next (by decide +kernel)⟩

theorem witness_CounterTransfers :
    plain.cfg.pcXferShift = true ∧
      (let s : State := { plain with cfg := { Config.default with pcXferShift := false }, b := 0xFE#8 }
       s.cfg.pcXferShift = false ∧ s.abNat % 2 = 0) ∧
      let s : State := { plain with cfg := { Config.default with pcXferShift := false } }
      s.cfg.pcXferShift = false ∧ s.abNat % 2 = 1 := by
  decide +kernel

theorem witness_OptionalInstructions :
    { Config.default with hasInfoRegs := true }.hasInfoRegs = true ∧ plain.cfg.hasInfoRegs = false ∧
      plain.cfg.hasPmemacc = true ∧ { Config.default with hasPmemacc := false }.hasPmemacc = false := by
  decide

theorem witness_SoftwareInterrupt : 9 ≤ plain.cfg.width ∧ plain.inInt = false ∧ routine.inInt = true := by
  decide

theorem witness_PortTransfers : CarriedOut [.direct 0#7, .direct 126#7, .pointer, .indexed 0#7, .indexed 7#7] := by
  unfold CarriedOut State.readable State.writable
  decide +kernel

theorem witness_FlagTransfers : CarriedOut [.direct 0#7, .direct 126#7, .pointer, .indexed 0#7, .indexed 7#7] ∧
    (let s : State := { plain with mem := [(126, 0x02#8)] }
     (s.byteAt (.direct 126#7)).getLsbD 1 ≠ s.mf) ∧
    let s : State := { plain with mem := [(126, 0x02#8)], mf := true }
    (s.byteAt (.direct 126#7)).getLsbD 1 = s.mf := by
  unfold CarriedOut State.readable State.writable
  decide +kernel

theorem witness_ReturnFromInterrupt :
    plain.inInt = false ∧
      (let s : State := { routine with cfg := { Config.default with memModel := .split 1922 } }
       s.inInt = true ∧ s.cfg.memBytes ≤ s.cfg.dataBase + (126#7).toNat) ∧
      let s : State := { routine with cfg := { Config.default with memModel := .split 1921 } }
      s.inInt = true ∧ s.cfg.dataBase + (126#7).toNat < s.cfg.memBytes := by
  decide +kernel

theorem witness_StoresOfRegisters : CarriedOut [.direct 0#7, .direct 126#7, .pointer, .indexed 0#7, .indexed 7#7] := by
  unfold CarriedOut State.readable State.writable
  decide +kernel

theorem witness_MemoryShifts : CarriedOut [.direct 1#7, .direct 126#7, .pointer, .indexed 0#7, .indexed 7#7] := by
  unfold CarriedOut State.readable State.writable
  decide +kernel

theorem witness_MemoryLogic : CarriedOut [.direct 2#7, .direct 126#7, .pointer, .indexed 0#7, .indexed 7#7] := by
  unfold CarriedOut State.readable State.writable
  decide +kernel

theorem witness_IncrementsAndDecrements : CarriedOut [.direct 3#7, .direct 126#7, .pointer, .indexed 0#7, .indexed 7#7] := by
  unfold CarriedOut State.readable State.writable
  decide +kernel

theorem witness_ExchangingSteps : CarriedOut [.direct 4#7, .direct 126#7, .pointer, .indexed 0#7, .indexed 7#7] := by
  unfold CarriedOut State.readable State.writable
  decide +kernel

theorem witness_AddSubtractMemory : CarriedOut [.direct 5#7, .direct 126#7, .pointer, .indexed 0#7, .indexed 7#7] := by
  unfold CarriedOut State.readable State.writable
  decide +kernel

theorem witness_AddSubtractAccumulator : CarriedOut [.direct 6#7, .direct 126#7, .indexed 0#7, .indexed 7#7] := by
  unfold CarriedOut State.readable State.writable
  decide +kernel

theorem witness_LogicOnA : CarriedOut [.direct 7#7, .direct 126#7, .indexed 0#7, .indexed 7#7] := by
  unfold CarriedOut State.readable State.writable
  decide +kernel

theorem witness_LoadsOfRegisters : CarriedOut [.direct 8#7, .direct 126#7, .pointer, .indexed 0#7, .indexed 7#7] := by
  unfold CarriedOut State.readable State.writable
  decide +kernel

theorem witness_CopiesInMemory : CarriedOut [.direct 9#7, .direct 126#7, .pointer, .indexed 0#7, .indexed 7#7, .pageC, .zeroC] := by
  unfold CarriedOut State.readable State.writable
  decide +kernel

theorem witness_SixteenBitPointerSteps :
    plain.mem.wf ∧ 0#7 ≠ 126#7 ∧ plain.pa = false ∧ plain.readable (.direct 0#7) ∧ plain.readable (.direct 126#7) ∧
      plain.writable (.direct 0#7) ∧ plain.writable (.direct 126#7) := by
  unfold Memory.wf State.readable State.writable
  decide +kernel

theorem witness_CountedLoops :
    { Config.default with loopB := true }.loopB = true ∧ plain.cfg.loopB = false := by
  decide

theorem witness_CompoundLoops :
    start.c = 0#8 ∧ plain.c ≠ 0#8 ∧ plain.writable .pointer ∧ plain.readable .pointer ∧ limited.writable .pointer ∧
      limited.readable .pointer := by
  unfold State.readable State.writable
  decide +kernel

theorem witness_MacroEntry :
    (plain.mf = false ∧ plain.inInt = false ∧ plain.cfg.macroExt = false ∧ plain.writable (.direct 0#7)) ∧
      (32 ≤ (32#6).toNat ∧ (31#6).toNat < 32) ∧ { Config.default with macroExt := true }.macroExt = true := by
  unfold State.writable
  decide +kernel

/-- The words no millicode may end with, as `Obligations.MacroEnd` lists them. -/
def barred (op : BitVec 6) (xx : Byte) : Bool :=
  decide ((0x10 ≤ op.toNat ∧ op.toNat ≤ 0x1B) ∨ op.toNat = 0x1F ∨ op.toNat = 0x38 ∨ op.toNat = 0x39 ∨
    (op.toNat = 0x01 ∧ 0xD0 ≤ xx.toNat ∧ xx.toNat ≤ 0xDF))

theorem witness_MacroEnd_barred :
    (milli.mf = true ∧ milli.inInt = false ∧ milli.cfg.macroExt = false) ∧
      [(0x10#6, 0x00#8), (0x1B#6, 0xFF#8), (0x1F#6, 0x00#8), (0x38#6, 0x00#8), (0x39#6, 0x00#8), (0x01#6, 0xD0#8),
        (0x01#6, 0xDF#8)].all (fun e => barred e.1 e.2) = true := by
  decide +kernel

theorem witness_MacroEnd_allowed :
    [(0x0F#6, 0x00#8), (0x1C#6, 0x00#8), (0x1E#6, 0x00#8), (0x20#6, 0x00#8), (0x37#6, 0x00#8), (0x3A#6, 0x00#8),
        (0x01#6, 0xCF#8), (0x01#6, 0xE0#8)].all (fun e => !barred e.1 e.2) = true ∧
      (∃ t, exec (decodeOp 0x3A#6 0x7F#8) milli = .next t ∧ (t.a == 0x07#8) = true) ∧
        (exec (decodeOp 0x0F#6 0x00#8) milli matches .refused _) = true ∧
          (exec (decodeOp 0x1E#6 0x7F#8) { milli with a := 0x08#8 } matches .refused (.outsideMemory 0x8FF)) = true :=
  ⟨by decide +kernel, answers_next (by decide +kernel), by decide +kernel, by decide +kernel⟩

theorem witness_OpmsbWords :
    ([OpmsbMode.none, .debug, .parity, .fast].map fun m => { Config.default with opmsbMode := m }.opmsbMode) =
        [.none, .debug, .parity, .fast] ∧
      (fast.cfg.opmsbMode = .fast ∧ fast.cfg.macroExt = false ∧ fast.mf = false ∧ fast.writable (.indexed 7#7)) ∧
        (decodeOp 0x06#6 0x87#8).stepsOrWritesB = false ∧ (decodeOp 0x2F#6 0x10#8).stepsB = true ∧
          (decodeOp 0x03#6 0x05#8).assignsB = true ∧
            (∃ t, exec (decodeOp 0x06#6 0x87#8) fast = .next t ∧ (t.b == 0xFF#8) = true) ∧
              (exec (decodeOp 0x0F#6 0x00#8) fast matches .refused _) = true :=
  ⟨by decide, by unfold State.writable; decide +kernel, by decide +kernel, by decide +kernel, by decide +kernel,
    answers_next (by decide +kernel), by decide +kernel⟩

/-- `fast` in millicode. -/
def fastMilli : State := { fast with mf := true, mc := 0x200#17 }

theorem witness_OpmsbWords_end :
    (fastMilli.mf = true ∧ fastMilli.inInt = false ∧ fastMilli.writable (.indexed 7#7)) ∧
      (∃ t, exec (.hardMacro 0x06#6 0x87#8) fastMilli = .next t ∧ (t.b == 0xFF#8) = true) ∧
        (exec (.hardMacro 0x12#6 0x00#8) fastMilli matches .refused _) = true ∧
          (decodeOp 0x12#6 0x00#8).stepsOrWritesB = false ∧
            { fastMilli.cfg with macroExt := true }.macroExt = true ∧ (31#6).toNat < 32 ∧ 32 ≤ (32#6).toNat :=
  ⟨by unfold State.writable; decide +kernel, answers_next (by decide +kernel), by decide +kernel, by decide +kernel,
    by decide, by decide, by decide⟩

end Sys2Proof.Tests
end

section
/-! PROOFS. The scope family: what every step keeps of the parameters and of the counter of free values (R5, R8), the
data accesses (R55 to R68), and the state after reset (R46). -/

namespace Sys2Proof

/-- `DATA_BASE` of each split, for a memory of `16 * n` bytes (R5, R55). -/
theorem Config.dataBase_of_sixteen_parts {c : Config} {n : Nat} (h : c.memBytes = 16 * n) :
    (c.memModel = .tiny → c.dataBase = 0) ∧ (c.memModel = .half → c.dataBase = 8 * n) ∧
      (c.memModel = .quarter → c.dataBase = 12 * n) ∧ (c.memModel = .eighth → c.dataBase = 14 * n) ∧
        (c.memModel = .sixteenth → c.dataBase = 15 * n) := by
  refine ⟨fun hModel => by simp only [Config.dataBase, hModel], ?_, ?_, ?_, ?_⟩
  all_goals
    intro hModel
    simp only [Config.dataBase, hModel]
    omega

/-- The defaults of R5 are allowed parameters. -/
theorem Config.default_wf : Config.default.wf := by
  unfold Config.wf
  decide

end Sys2Proof

namespace Sys2Proof.Machine

/-! ### Data accesses -/

/-- A restricted read yields the free value of the present count and draws it (R58). -/
theorem State.dread_of_restricted {s : State} {o : Operand} (h : s.restricted o = true) :
    s.dread o = .ok (Config.freeByte s.draws) { s with ae := true, draws := s.draws + 1 } := by
  rw [State.dread_of_readable (.inl h)]
  simp [State.byteAt, State.afterRead, h]

/-- A restricted write raises AE and stores nothing (R59). -/
theorem State.dwrite_of_restricted {s : State} {o : Operand} (h : s.restricted o = true) (v : Byte) :
    s.dwrite o v = .ok () { s with ae := true } := by
  rw [State.dwrite_of_writable v (.inl h)]
  simp [State.afterWrite, h]

/-- The restriction in words: user mode, one of the three pointer forms, an address below `USER_LIMIT` (R58, R60). -/
theorem State.restricted_iff (s : State) (o : Operand) :
    s.restricted o = true ↔ (s.cfg.hasUserMode = true ∧ s.uf = true) ∧
      (o = .pointer ∨ o = .pageC ∨ ∃ m, o = .indexed m) ∧ (s.ea o).toNat < s.cfg.userLimit := by
  have hForm : o.pointerForm = true ↔ (o = .pointer ∨ o = .pageC ∨ ∃ m, o = .indexed m) := by
    cases o <;> simp [Operand.pointerForm]
  simp [State.restricted, State.userMode, hForm, and_assoc]

section Unrestricted

variable {s : State} {o : Operand} (hr : s.restricted o = false)
include hr

/-- A read that is not restricted stops outside the installed memory (R57). -/
theorem State.dread_outside (hp : s.cfg.memBytes ≤ s.phys (s.ea o)) :
    s.dread o = .refused (.outsideMemory (s.phys (s.ea o))) := by
  simp [State.dread, hr, hp]

/-- A read that is not restricted yields the byte of memory and changes nothing (R58). -/
theorem State.dread_installed (hp : s.phys (s.ea o) < s.cfg.memBytes) :
    s.dread o = .ok (s.mem.read (s.phys (s.ea o))) s := by
  rw [State.dread_of_readable (.inr hp)]
  simp [State.byteAt, State.afterRead, hr]

/-- Under PMEMACC in user mode a write is suppressed (R61). -/
theorem State.dwrite_suppressed (hs : s.pa = true ∧ s.userMode = true) (v : Byte) : s.dwrite o v = .ok () s := by
  rw [State.dwrite_of_writable v (.inr (.inl hs))]
  simp [State.afterWrite, hr, hs]

variable (hs : ¬(s.pa = true ∧ s.userMode = true))
include hs

/-- A write that is not suppressed stops outside the installed memory (R57). -/
theorem State.dwrite_outside (hp : s.cfg.memBytes ≤ s.phys (s.ea o)) (v : Byte) :
    s.dwrite o v = .refused (.outsideMemory (s.phys (s.ea o))) := by
  simp [State.dwrite, hr, hs, hp]

variable (hp : s.phys (s.ea o) < s.cfg.memBytes)
include hp

/-- A write into the following instruction is refused (R68). -/
theorem State.dwrite_intoNext (hn : s.hitsNext (s.phys (s.ea o)) = true) (v : Byte) :
    s.dwrite o v = .refused (.storeIntoNext (s.phys (s.ea o))) := by
  simp [State.dwrite, hr, hs, hp, hn]

/-- Any other write replaces one byte (R59). -/
theorem State.dwrite_installed (hn : s.hitsNext (s.phys (s.ea o)) = false) (v : Byte) :
    s.dwrite o v = .ok () { s with mem := s.mem.set (s.phys (s.ea o)) v } := by
  rw [State.dwrite_of_writable v (.inr (.inr ⟨hp, hn⟩))]
  simp [State.afterWrite, hr, hs]

end Unrestricted

/-- The bytes of the following instruction are those at `next` and at `next + 1`, wrapped to `W` bits (R68). -/
theorem State.hitsNext_iff (s : State) (p : Nat) :
    s.hitsNext p = true ↔ p = s.cnt.toNat ∨ p = (s.cfg.wrap (s.cnt + 1#17)).toNat := by
  simp [State.hitsNext]

/-- Settles O15: the restriction and the two bytes of the following instruction put in words, each access is one of the
cases above. -/
theorem dataAccess : Obligations.DataAccess := by
  refine ⟨fun c n h => Config.dataBase_of_sixteen_parts h, fun s o v => ?_⟩
  have hUser : (s.cfg.hasUserMode = true ∧ s.uf = true) ↔ s.userMode = true := by simp [State.userMode]
  intro p user limited
  have hLimited : ¬limited → s.restricted o = false := fun h =>
    Bool.eq_false_iff.2 fun hr => h ((s.restricted_iff o).1 hr)
  have hSuppressed : (s.pa = true ∧ user) ↔ (s.pa = true ∧ s.userMode = true) := and_congr_right fun _ => hUser
  rw [hSuppressed]
  refine ⟨fun h => ?_, fun h => State.dread_outside (hLimited h), fun h => State.dread_installed (hLimited h),
    fun h hs => State.dwrite_suppressed (hLimited h) hs v,
    fun h hs hp => State.dwrite_outside (hLimited h) hs hp v, fun h hs hp hn => ?_, fun h hs hp hn hn' => ?_⟩
  · have hr := (s.restricted_iff o).2 h
    exact ⟨State.dread_of_restricted hr, State.dwrite_of_restricted hr v⟩
  · exact State.dwrite_intoNext (hLimited h) hs hp ((s.hitsNext_iff p).2 hn) v
  · have hMiss : s.hitsNext p = false := Bool.eq_false_iff.2 fun hHit => ((s.hitsNext_iff p).1 hHit).elim hn hn'
    exact State.dwrite_installed (hLimited h) hs hp hMiss v

/-! ### Reset -/

/-- Counter value 0 can stand at a boundary, whatever `W` is. -/
theorem counterOk_zero (c : Config) : CounterOk c 0#17 := ⟨rfl, Nat.two_pow_pos _⟩

/-- A reset core with allowed parameters meets the invariant: its memory is empty, RESET_PC is allowed by the
parameters, MC and IC are 0 (R46, log entry 2). -/
theorem State.resetOf_inv {c : Config} (h : c.wf) : (State.resetOf c).Inv := by
  have ⟨_, _, _, _, _, _, hEven, hBits, _⟩ := h
  exact
    { cfg_wf := h
      mem_wf := List.Pairwise.nil
      mem_installed := nofun
      pc_ok := ⟨hEven, hBits⟩
      mc_ok := counterOk_zero c
      ic_ok := counterOk_zero c
      tm_zero := rfl
      no_user_mode := fun _ => ⟨rfl, rfl⟩ }

/-- Settles O18: one argument for every allowed core, the default one among them. -/
theorem resetInv : Obligations.ResetInv :=
  ⟨State.resetOf_inv Config.default_wf, fun _ h => State.resetOf_inv h⟩

/-! ### The parameters are fixed and the counter of free values only rises -/

/-- `t` may come after `s` in a run: the parameters of `s`, and at least as many free values drawn. -/
structure State.Extends (s t : State) : Prop where
  cfg_eq : t.cfg = s.cfg
  draws_le : s.draws ≤ t.draws

/-- Whatever next state `o` answers may come after `s`; a stop answers none. -/
def State.ExtendsTo (s : State) (o : Host.Outcome State Fault Refusal) : Prop := ∀ t, o = .next t → s.Extends t

/-! #### The operations inside an instruction -/

theorem State.Extends.of_eq {s t : State} (hc : t.cfg = s.cfg) (hd : t.draws = s.draws) : s.Extends t :=
  ⟨hc, hd.ge⟩

theorem State.Extends.trans {s t u : State} (h : s.Extends t) (h' : t.Extends u) : s.Extends u :=
  ⟨h'.cfg_eq.trans h.cfg_eq, h.draws_le.trans h'.draws_le⟩

/-- A read draws one free value where it is restricted, else none (R58). -/
theorem State.extends_afterRead (s : State) (o : Operand) : s.Extends (s.afterRead o) := by
  refine ⟨s.afterRead_cfg o, ?_⟩
  unfold State.afterRead
  split
  · exact Nat.le_succ _
  · exact Nat.le_refl _

theorem State.extends_afterWrite (s : State) (o : Operand) (v : Byte) : s.Extends (s.afterWrite o v) :=
  .of_eq (s.afterWrite_cfg o v) (s.afterWrite_draws o v)

theorem State.extends_setCnt (s : State) (t : Counter) : s.Extends (s.setCnt t) :=
  .of_eq (s.setCnt_cfg t) (s.setCnt_draws t)

/-- Where the script of port bytes is used up, an input yields the free value of the present count and draws it (R64). -/
theorem State.portIn_of_no_script {s : State} (h : s.portScript = []) (port : Byte) :
    (s.portIn port).1 = Config.freePortByte s.draws ∧ (s.portIn port).2.draws = s.draws + 1 := by
  simp [State.portIn, h]

theorem State.extends_portIn (s : State) (port : Byte) : s.Extends (s.portIn port).2 := by
  refine ⟨s.portIn_cfg port, ?_⟩
  cases h : s.portScript with
  | nil => exact (State.portIn_of_no_script h port).2 ▸ Nat.le_succ _
  | cons v rest => simp [State.portIn, h]

/-- Where the script of line levels is used up, a sample takes the free levels of the present count and draws them
(R316). -/
theorem State.sampleLines_of_no_script {s : State} (h : s.lineScript = []) :
    s.sampleLines.lines = ⟨Config.freeInt0 s.draws, Config.freeInt1 s.draws, Config.freeJsig121 s.draws⟩ ∧
      s.sampleLines.draws = s.draws + 1 := by
  simp [State.sampleLines, h]

theorem State.extends_sampleLines (s : State) : s.Extends s.sampleLines := by
  refine ⟨s.sampleLines_cfg, ?_⟩
  cases h : s.lineScript with
  | nil => exact (State.sampleLines_of_no_script h).2 ▸ Nat.le_succ _
  | cons l rest => simp [State.sampleLines, h]

/-! #### The shapes of instruction -/

theorem State.Extends.extendsTo {s t : State} {o : Host.Outcome State Fault Refusal} (h : s.Extends t)
    (ho : t.ExtendsTo o) : s.ExtendsTo o :=
  fun u hu => h.trans (ho u hu)

theorem extendsTo_refused (s : State) (r : Refusal) : s.ExtendsTo (.refused r) := by
  intro t ht
  cases ht

theorem extendsTo_finish {s t : State} (h : s.Extends t) : s.ExtendsTo (finish t) := by
  intro u hu
  obtain rfl := finish_next.1 hu
  exact ⟨h.cfg_eq, h.draws_le⟩

/-- An instruction that ends after an update which leaves the parameters and the counter of free values alone. -/
theorem extendsTo_finish_of_eq {s t : State} (hc : t.cfg = s.cfg) (hd : t.draws = s.draws) :
    s.ExtendsTo (finish t) :=
  extendsTo_finish (.of_eq hc hd)

theorem extendsTo_ite {s : State} {p : Prop} [Decidable p] {x y : Host.Outcome State Fault Refusal}
    (hx : s.ExtendsTo x) (hy : s.ExtendsTo y) : s.ExtendsTo (if p then x else y) := by
  split
  · exact hx
  · exact hy

theorem extendsTo_mapNext {s : State} {f : State → State} {o : Host.Outcome State Fault Refusal}
    (hf : ∀ u : State, u.Extends (f u)) (ho : s.ExtendsTo o) : s.ExtendsTo (mapNext f o) := by
  intro t ht
  obtain ⟨u, hu, rfl⟩ := mapNext_next.1 ht
  exact (ho u hu).trans (hf u)

theorem extendsTo_dread {s : State} {o : Operand} {k : Byte → State → Host.Outcome State Fault Refusal}
    (hk : ∀ v (t : State), t.ExtendsTo (k v t)) : s.ExtendsTo ((s.dread o).andThen k) := by
  rcases s.dread_cases o with ⟨-, e⟩ | ⟨-, e⟩ <;> rw [e]
  · exact (s.extends_afterRead o).extendsTo (hk _ _)
  · exact extendsTo_refused s _

theorem extendsTo_dwrite {s : State} {o : Operand} {v : Byte} {k : Unit → State → Host.Outcome State Fault Refusal}
    (hk : ∀ x (t : State), t.ExtendsTo (k x t)) : s.ExtendsTo ((s.dwrite o v).andThen k) := by
  rcases s.dwrite_cases o v with ⟨-, e⟩ | ⟨-, e | e⟩ <;> rw [e]
  · exact (s.extends_afterWrite o v).extendsTo (hk _ _)
  · exact extendsTo_refused s _
  · exact extendsTo_refused s _

theorem extendsTo_load {s : State} {o : Operand} {k : Byte → State → State} (hk : ∀ v (t : State), t.Extends (k v t)) :
    s.ExtendsTo (load s o k) :=
  extendsTo_dread fun v t => extendsTo_finish (hk v t)

theorem extendsTo_store (s : State) (o : Operand) (v : Byte) : s.ExtendsTo (store s o v) :=
  extendsTo_dwrite fun _ _ => extendsTo_finish_of_eq rfl rfl

theorem extendsTo_modify {s : State} {o : Operand} {f : Byte → Byte × Bool} {k : Byte → Byte × Bool → State → State}
    (hk : ∀ v r (t : State), t.Extends (k v r t)) : s.ExtendsTo (modify s o f k) :=
  extendsTo_dread fun v _ => extendsTo_dwrite fun _ u => extendsTo_finish (hk v (f v) u)

theorem extendsTo_copy {s : State} {src dst : Operand} {k : State → State} (hk : ∀ t : State, t.Extends (k t)) :
    s.ExtendsTo (copy s src dst k) :=
  extendsTo_dread fun _ _ => extendsTo_dwrite fun _ u => extendsTo_finish (hk u)

/-! #### The families of instruction -/

theorem extendsTo_arithMem (s : State) (o : Operand) (f : Byte → Byte × Bool) : s.ExtendsTo (arithMem s o f) :=
  extendsTo_modify fun _ _ _ => .of_eq rfl rfl

theorem extendsTo_arithMemX (s : State) (o : Operand) (f : Byte → Byte × Bool) : s.ExtendsTo (arithMemX s o f) :=
  extendsTo_modify fun _ _ _ => .of_eq rfl rfl

theorem extendsTo_arithA (s : State) (o : Operand) (f : Byte → Byte × Bool) : s.ExtendsTo (arithA s o f) :=
  extendsTo_load fun _ _ => .of_eq rfl rfl

theorem extendsTo_shiftMem (s : State) (o : Operand) (f : Byte → Byte × Bool) : s.ExtendsTo (shiftMem s o f) :=
  extendsTo_modify fun _ _ _ => .of_eq rfl rfl

theorem extendsTo_logicMem (s : State) (o : Operand) (f : Byte → Byte → Byte) : s.ExtendsTo (logicMem s o f) :=
  extendsTo_modify fun _ _ _ => .of_eq rfl rfl

theorem extendsTo_logicA (s : State) (o : Operand) (f : Byte → Byte → Byte) : s.ExtendsTo (logicA s o f) :=
  extendsTo_load fun _ _ => .of_eq rfl rfl

theorem extendsTo_setflag (s : State) (o : Operand) : s.ExtendsTo (setflag s o) :=
  extendsTo_dread fun _ t => extendsTo_ite (extendsTo_finish_of_eq rfl rfl) (extendsTo_refused t _)

theorem extendsTo_inTo (s : State) (o : Operand) : s.ExtendsTo (inTo s o) :=
  (s.extends_portIn s.c).extendsTo (extendsTo_store _ o _)

theorem extendsTo_outFrom (s : State) (o : Operand) : s.ExtendsTo (outFrom s o) :=
  extendsTo_load fun _ _ => .of_eq rfl rfl

theorem extendsTo_reti (m : BitVec 7) (s : State) : s.ExtendsTo (execReti m s) :=
  extendsTo_ite (extendsTo_load fun _ _ => .of_eq rfl rfl) (extendsTo_refused s _)

theorem extendsTo_jumpIf (s : State) (taken : Bool) (t : Counter) : s.ExtendsTo (jumpIf s taken t) := by
  refine extendsTo_finish ?_
  split
  · exact s.extends_setCnt t
  · exact .of_eq rfl rfl

theorem extendsTo_linkIf (s : State) (taken : Bool) (t : Counter) : s.ExtendsTo (linkIf s taken t) := by
  refine extendsTo_finish ?_
  split
  · exact .of_eq (State.setCnt_cfg _ t) (State.setCnt_draws _ t)
  · exact .of_eq rfl rfl

theorem extendsTo_loopTo (s : State) (t : Counter) (d : Byte) : s.ExtendsTo (loopTo s t d) :=
  extendsTo_ite (extendsTo_finish_of_eq rfl rfl)
    (extendsTo_finish_of_eq (State.setCnt_cfg _ t) (State.setCnt_draws _ t))

theorem extendsTo_loopB (s : State) (d : Byte) : s.ExtendsTo (loopB s d) :=
  extendsTo_ite (extendsTo_loopTo s _ d) (extendsTo_refused s _)

theorem extendsTo_loopShift (s : State) (f : Byte → Byte × Bool) (d : Byte) : s.ExtendsTo (loopShift s f d) :=
  extendsTo_ite (extendsTo_finish_of_eq rfl rfl)
    (extendsTo_modify fun _ _ _ => .of_eq (State.setCnt_cfg _ _) (State.setCnt_draws _ _))

theorem extendsTo_loopzero (s : State) : s.ExtendsTo (execLoopzero s) :=
  extendsTo_ite (extendsTo_finish_of_eq rfl rfl)
    (extendsTo_dwrite fun _ _ => extendsTo_finish_of_eq (State.setCnt_cfg _ _) (State.setCnt_draws _ _))

/-- Every ordinary instruction, by the family that gives it its meaning. -/
theorem extendsTo_runOrdinary (i : Instr) (s : State) : s.ExtendsTo (runOrdinary i s) := by
  cases i with
  | rsv01At00 | rsv01From04 | rsv01At23 | rsv01From25 | rsv01From29 | rsv01From32 | rsv01From44 | rsv01At53
  | rsv01From55 | rsv01From59 | clear0 | clearK | rsv01From70 | loadOpt | saveOpt | rsv01AtC3 | rsv01FromC5
  | rsv01FromC9 | rsv01FromE2 | rsv01FromF4 | roopshlc | roopshrc | unused0F | rsv10At7E | rsv11At7E | unusable12
  | unusable13 | unusable14 | unusable15 | unusable16 | unusable17 | unusable18 | unusable19 | unusable1A
  | unusable1B | unused1C | rsv1FAt7F | rsv1FFrom80 | hardMacro | opmsb => exact extendsTo_refused s _
  | nop | ldAB | ldBA | swap | ldBC | getpc | getmc | usermode | offset | getstat | clear1 | clc | disable | enable
  | outputb | ldAN | ldBN | ldCN => exact extendsTo_finish_of_eq rfl rfl
  | addAC | addcAC | subAC | subcAC | andAC | andAN | xorAC | xorAN | orAC | orAN =>
    exact extendsTo_finish_of_eq rfl rfl
  | setpc | setmc | int => exact extendsTo_ite (extendsTo_refused s _) (extendsTo_finish_of_eq rfl rfl)
  | getver | getid | cpuinfo => exact extendsTo_ite (extendsTo_finish_of_eq rfl rfl) (extendsTo_refused s _)
  | pmemacc =>
    refine extendsTo_ite ?_ (extendsTo_refused s _)
    rintro t ⟨⟩
    exact .of_eq rfl rfl
  | inputa =>
    have h := s.extends_portIn s.c
    exact extendsTo_finish ⟨h.cfg_eq, h.draws_le⟩
  | inout =>
    have h := (s.portOut s.c s.b).extends_portIn s.c
    exact extendsTo_finish ⟨h.cfg_eq, h.draws_le⟩
  | setflagD | setflagP | setflagX => exact extendsTo_setflag s _
  | stAD | stAX | stBD | zeroX | stCD | stCP | stCX | getflagD | getflagP | getflagX => exact extendsTo_store s _ _
  | shlD | shlP | shlX | shrD | shrP | shrX | shlcD | shlcP | shlcX | shrcD | shrcP | shrcX =>
    exact extendsTo_shiftMem s _ _
  | andMemD | andMemP | andMemX | xorMemD | xorMemP | xorMemX | orMemD | orMemP | orMemX =>
    exact extendsTo_logicMem s _ _
  | jmpM | jmpC0 | jmpC1 | jmpZ0 | jmpZ1 | jmpP | jmpX | jrFwd | jrB | jrBack | jrc0Fwd | jrc0B | jrc0Back | jrc1Fwd
  | jrc1B | jrc1Back | jrz0Fwd | jrz0B | jrz0Back | jrz1Fwd | jrz1B | jrz1Back => exact extendsTo_jumpIf s _ _
  | balM | balC0 | balC1 | balZ0 | balZ1 | balP | balX | brFwd | brB | brBack | brc0Fwd | brc0B | brc0Back | brc1Fwd
  | brc1B | brc1Back | brz0Fwd | brz0B | brz0Back | brz1Fwd | brz1B | brz1Back => exact extendsTo_linkIf s _ _
  | inD | inP | inX => exact extendsTo_inTo s _
  | outD | outP | outX => exact extendsTo_outFrom s _
  | reti m => exact extendsTo_reti m s
  | incD | incP | incX | inccD | inccP | inccX | addMemD | addMemP | addMemX | addcMemD | addcMemP | addcMemX | decD
  | decP | decX | deccD | deccP | deccX | subMemD | subMemP | subMemX | subcMemD | subcMemP | subcMemX =>
    exact extendsTo_arithMem s _ _
  | incxD | incxP | incxX | incxcD | incxcP | incxcX | decxD | decxP | decxX | decxcD | decxcP | decxcX =>
    exact extendsTo_arithMemX s _ _
  | addAD | addAX | addcAD | addcAX | subAD | subAX | subcAD | subcAX => exact extendsTo_arithA s _ _
  | andAD | andAX | xorAD | xorAX | orAD | orAX => exact extendsTo_logicA s _ _
  | ldAD | ldAP | ldAX | ldBD | ldBP | ldBX | ldCD | ldCP | ldCX => exact extendsTo_load fun _ _ => .of_eq rfl rfl
  | stacpD | stacpP | stacpX | stabD | stac | stabX | stabpD | stzcp | stabpX =>
    exact extendsTo_copy fun _ => .of_eq rfl rfl
  | loopdecWait | loopdecFwd | loopdecBack | loopincFwd | loopincBack => exact extendsTo_loopTo s _ _
  | loopdecB | loopincB => exact extendsTo_loopB s _
  | loopshrc | loopshlc => exact extendsTo_loopShift s _ _
  | loopzero => exact extendsTo_loopzero s

/-- Millicode entry and end, the words with bit 14 set (R301 to R303). -/
theorem extendsTo_macroWord (op : BitVec 6) (xx : Byte) (s : State) : s.ExtendsTo (macroWord op xx s) :=
  have hEnd : s.ExtendsTo (macroEnd op xx s) :=
    extendsTo_ite (extendsTo_refused s _) (extendsTo_mapNext (fun _ => .of_eq rfl rfl) (extendsTo_runOrdinary _ s))
  have hEntry : s.ExtendsTo (macroEntry op xx s) := extendsTo_dwrite fun _ _ => extendsTo_finish_of_eq rfl rfl
  extendsTo_ite (extendsTo_refused s _) (extendsTo_ite (extendsTo_refused s _) (extendsTo_ite hEnd hEntry))

/-- An opmsb word in mode FAST (R306). -/
theorem extendsTo_fastWord (mac : Bool) (op : BitVec 6) (xx : Byte) (s : State) :
    s.ExtendsTo (fastWord mac op xx s) := by
  have hWord : s.ExtendsTo (if mac then macroWord op xx s else runOrdinary (decodeOp op xx) s) :=
    extendsTo_ite (extendsTo_macroWord op xx s) (extendsTo_runOrdinary _ s)
  unfold fastWord
  iterate 4 refine extendsTo_ite (extendsTo_refused s _) ?_
  exact extendsTo_mapNext (fun _ => .of_eq rfl rfl) hWord

theorem extendsTo_execOpmsb (mac : Bool) (op : BitVec 6) (xx : Byte) (s : State) :
    s.ExtendsTo (execOpmsb mac op xx s) := by
  unfold execOpmsb
  cases s.cfg.opmsbMode with
  | none | debug | parity => exact extendsTo_refused s _
  | fast => exact extendsTo_fastWord mac op xx s

theorem extendsTo_exec (i : Instr) (s : State) : s.ExtendsTo (exec i s) := by
  have hOrdinary := extendsTo_runOrdinary i s
  cases i with
  | hardMacro op xx => exact extendsTo_macroWord op xx s
  | opmsb mac op xx => exact extendsTo_execOpmsb mac op xx s
  | _ => exact hOrdinary

/-! #### The fetch and the step -/

/-- A fetch that answers has advanced the active counter and changed nothing else (R26). -/
theorem State.fetchInstr_ok_state {s t : State} {i : Instr} (h : s.fetchInstr = .ok i t) :
    t = s.setCnt (s.cnt + 2#17) := by
  unfold State.fetchInstr at h
  cases hf : s.fetch with
  | refused r => simp [hf] at h
  | ok w u =>
    obtain ⟨-, -, -, -, rfl⟩ := State.fetch_ok.1 hf
    simp only [hf] at h
    split at h
    · cases h
    · cases h
      rfl

theorem extendsTo_step (s : State) : s.ExtendsTo (step s) := by
  intro t ht
  have hSample := s.extends_sampleLines
  rcases step_next.1 ht with ⟨k, -, rfl⟩ | ⟨-, i, u, hFetch, hExec⟩
  · exact hSample.trans (.of_eq rfl rfl)
  · obtain rfl := State.fetchInstr_ok_state hFetch
    exact (hSample.trans (State.extends_setCnt _ _)).trans (extendsTo_exec i _ t hExec)

/-- Settles O20: every shape of instruction keeps the parameters and draws forward; the three draws one by one. -/
theorem stepKeepsParameters : Obligations.StepKeepsParameters := by
  refine ⟨fun s t h => ?_, fun s o h => ?_, fun s port h => ?_, fun s h => ?_⟩
  · obtain ⟨hcfg, hdraws⟩ := extendsTo_step s t h
    exact ⟨hcfg, hdraws⟩
  · exact ⟨_, State.dread_of_restricted h, Nat.lt_succ_self _⟩
  · obtain ⟨hbyte, hdraws⟩ := State.portIn_of_no_script h port
    exact ⟨hbyte, hdraws ▸ Nat.lt_succ_self _⟩
  · obtain ⟨hlines, hdraws⟩ := State.sampleLines_of_no_script h
    exact ⟨hlines, hdraws ▸ Nat.lt_succ_self _⟩

end Sys2Proof.Machine
end

section
/-! PROOFS. The state family: what an instruction may do to IF and to the status register (R38 to R40, R325). -/

namespace Sys2Proof.Machine

/-! ### The frame of IF and of the status register -/

/-- The ordinary instruction `i` may read or store through `o`. -/
def accessesThrough (i : Instr) (o : Operand) : Prop := readsThrough i = some o ∨ storesThrough i = some o

/-- The word `i`, run in state `s`, may read or store through `o`. -/
def State.MayAccess (s : State) (i : Instr) (o : Operand) : Prop :=
  s.readOperand i = some o ∨ s.storeOperand i = some o

/-- `t` has the IF and the status register bits of `s`. -/
structure SameStatus (s t : State) : Prop where
  inInt_eq : t.inInt = s.inInt
  ae_eq : t.ae = s.ae
  ef_eq : t.ef = s.ef
  tm_eq : t.tm = s.tm

/-- What the ordinary instruction `c` over the operands in `ops` may do to IF and to the status register from `s` to
`t`: a bit changes only by its writers, and AE is set only by an operand that is restricted in `s`. -/
structure StatusFrame (c : Instr) (ops : Operand → Prop) (s t : State) : Prop where
  inInt_set : s.inInt = false → t.inInt = true → ∃ k, c = .int k
  inInt_cleared : s.inInt = true → t.inInt = false → ∃ m, c = .reti m
  ae_set : s.ae = false → t.ae = true → ∃ o, ops o ∧ s.restricted o = true
  ae_cleared : s.ae = true → t.ae = false → c = .clear1
  ef_changed : t.ef ≠ s.ef → c = .enable ∨ c = .disable
  tm_eq : t.tm = s.tm

/-- The frame holds of whatever next state `x` answers; a stop answers none. -/
def StatusTo (c : Instr) (ops : Operand → Prop) (s : State) (x : Host.Outcome State Fault Refusal) : Prop :=
  ∀ t, x = .next t → StatusFrame c ops s t

section Frame

variable {c : Instr} {ops : Operand → Prop} {s t u : State}

/-- An update of other parts of the state adds nothing to the frame. -/
theorem StatusFrame.then_same (h : StatusFrame c ops s t) (h' : SameStatus t u) : StatusFrame c ops s u where
  inInt_set := h'.inInt_eq ▸ h.inInt_set
  inInt_cleared := h'.inInt_eq ▸ h.inInt_cleared
  ae_set := h'.ae_eq ▸ h.ae_set
  ae_cleared := h'.ae_eq ▸ h.ae_cleared
  ef_changed := h'.ef_eq ▸ h.ef_changed
  tm_eq := h'.tm_eq.trans h.tm_eq

theorem StatusFrame.refl (s : State) : StatusFrame c ops s s where
  inInt_set h h' := absurd (h.symm.trans h') (by decide)
  inInt_cleared h h' := absurd (h.symm.trans h') (by decide)
  ae_set h h' := absurd (h.symm.trans h') (by decide)
  ae_cleared h h' := absurd (h.symm.trans h') (by decide)
  ef_changed h := absurd rfl h
  tm_eq := rfl

theorem StatusFrame.of_same (h : SameStatus s t) : StatusFrame c ops s t :=
  (StatusFrame.refl s).then_same h

/-- Two changes in a row, where the first leaves the restriction of every operand alone. -/
theorem StatusFrame.trans (h : StatusFrame c ops s t) (hr : ∀ o, t.restricted o = s.restricted o)
    (h' : StatusFrame c ops t u) : StatusFrame c ops s u where
  inInt_set hs hu := by
    cases ht : t.inInt with
    | true => exact h.inInt_set hs ht
    | false => exact h'.inInt_set ht hu
  inInt_cleared hs hu := by
    cases ht : t.inInt with
    | true => exact h'.inInt_cleared ht hu
    | false => exact h.inInt_cleared hs ht
  ae_set hs hu := by
    cases ht : t.ae with
    | true => exact h.ae_set hs ht
    | false => simpa only [hr] using h'.ae_set ht hu
  ae_cleared hs hu := by
    cases ht : t.ae with
    | true => exact h'.ae_cleared ht hu
    | false => exact h.ae_cleared hs ht
  ef_changed hu := by
    by_cases ht : t.ef = s.ef
    · exact h'.ef_changed (ht ▸ hu)
    · exact h.ef_changed ht
  tm_eq := h'.tm_eq.trans h.tm_eq

/-! #### The operations inside an instruction -/

/-- Raising AE for a restricted operand (R312). -/
theorem StatusFrame.of_raiseAE {o : Operand} (ho : ops o) (hr : s.restricted o = true) :
    StatusFrame c ops s s.raiseAE :=
  { StatusFrame.refl (c := c) (ops := ops) s with
    ae_set := fun _ _ => ⟨o, ho, hr⟩
    ae_cleared := nofun }

/-- A read raises AE where it is restricted, else it leaves the status alone (R58). -/
theorem StatusFrame.of_afterRead {o : Operand} (ho : ops o) : StatusFrame c ops s (s.afterRead o) := by
  unfold State.afterRead
  split
  · next hr => exact (StatusFrame.of_raiseAE ho hr).then_same ⟨rfl, rfl, rfl, rfl⟩
  · exact .refl s

/-- A write raises AE where it is restricted, else it leaves the status alone (R59). -/
theorem StatusFrame.of_afterWrite {o : Operand} (ho : ops o) (v : Byte) : StatusFrame c ops s (s.afterWrite o v) := by
  unfold State.afterWrite
  split
  · next hr => exact .of_raiseAE ho hr
  · split
    · exact .refl s
    · exact .of_same ⟨rfl, rfl, rfl, rfl⟩

/-- Control goes elsewhere. -/
theorem SameStatus.setCnt {x : Counter} (h : SameStatus s t) : SameStatus s (t.setCnt x) where
  inInt_eq := (t.setCnt_inInt x).trans h.inInt_eq
  ae_eq := (t.setCnt_ae x).trans h.ae_eq
  ef_eq := (t.setCnt_ef x).trans h.ef_eq
  tm_eq := (t.setCnt_tm x).trans h.tm_eq

theorem sameStatus_portIn (s : State) (port : Byte) : SameStatus s (s.portIn port).2 :=
  ⟨s.portIn_inInt port, s.portIn_ae port, s.portIn_ef port, s.portIn_tm port⟩

/-- The address and the restriction of an operand survive a write. -/
@[simp] theorem State.afterWrite_ea (s : State) (w : Operand) (v : Byte) (o : Operand) :
    (s.afterWrite w v).ea o = s.ea o := by
  cases o <;> simp [State.ea, State.effOF]

@[simp] theorem State.afterWrite_restricted (s : State) (w : Operand) (v : Byte) (o : Operand) :
    (s.afterWrite w v).restricted o = s.restricted o := by
  simp [State.restricted, State.userMode]

/-- The address and the restriction of an operand survive a port input. -/
@[simp] theorem State.portIn_ea (s : State) (port : Byte) (o : Operand) : (s.portIn port).2.ea o = s.ea o := by
  cases o <;> simp [State.ea, State.effOF]

@[simp] theorem State.portIn_restricted (s : State) (port : Byte) (o : Operand) :
    (s.portIn port).2.restricted o = s.restricted o := by
  simp [State.restricted, State.userMode]

/-! #### The shapes of instruction -/

theorem statusTo_refused (r : Refusal) : StatusTo c ops s (.refused r) := by
  intro t ht
  cases ht

theorem statusTo_finish (h : StatusFrame c ops s t) : StatusTo c ops s (finish t) := by
  intro u hu
  obtain rfl := finish_next.1 hu
  exact h.then_same ⟨rfl, rfl, rfl, rfl⟩

/-- An instruction that ends after an update of other parts of the state. -/
theorem statusTo_finish_of_same (h : SameStatus s t) : StatusTo c ops s (finish t) :=
  statusTo_finish (.of_same h)

theorem statusTo_ite {p : Prop} [Decidable p] {x y : Host.Outcome State Fault Refusal}
    (hx : StatusTo c ops s x) (hy : StatusTo c ops s y) : StatusTo c ops s (if p then x else y) := by
  split
  · exact hx
  · exact hy

theorem statusTo_mapNext {f : State → State} {x : Host.Outcome State Fault Refusal}
    (hf : ∀ u : State, SameStatus u (f u)) (hx : StatusTo c ops s x) : StatusTo c ops s (mapNext f x) := by
  intro t ht
  obtain ⟨u, hu, rfl⟩ := mapNext_next.1 ht
  exact (hx u hu).then_same (hf u)

variable {o src dst : Operand}

theorem statusTo_dread {k : Byte → State → Host.Outcome State Fault Refusal} (ho : ops o)
    (hk : ∀ v (t : State), StatusTo c ops t (k v t)) : StatusTo c ops s ((s.dread o).andThen k) := by
  intro t ht
  rcases s.dread_cases o with ⟨-, e⟩ | ⟨-, e⟩ <;> rw [e] at ht
  · exact (StatusFrame.of_afterRead ho).trans (s.afterRead_restricted o) (hk _ _ t ht)
  · cases ht

theorem statusTo_dwrite {v : Byte} {k : Unit → State → Host.Outcome State Fault Refusal} (ho : ops o)
    (hk : ∀ x (t : State), StatusTo c ops t (k x t)) : StatusTo c ops s ((s.dwrite o v).andThen k) := by
  intro t ht
  rcases s.dwrite_cases o v with ⟨-, e⟩ | ⟨-, e | e⟩ <;> rw [e] at ht
  · exact (StatusFrame.of_afterWrite ho v).trans (s.afterWrite_restricted o v) (hk _ _ t ht)
  · cases ht
  · cases ht

theorem statusTo_load {k : Byte → State → State} (ho : ops o) (hk : ∀ v (t : State), SameStatus t (k v t)) :
    StatusTo c ops s (load s o k) :=
  statusTo_dread ho fun v t => statusTo_finish_of_same (hk v t)

theorem statusTo_store {v : Byte} (ho : ops o) : StatusTo c ops s (store s o v) :=
  statusTo_dwrite ho fun _ t => statusTo_finish (.refl t)

theorem statusTo_modify {f : Byte → Byte × Bool} {k : Byte → Byte × Bool → State → State} (ho : ops o)
    (hk : ∀ v r (t : State), SameStatus t (k v r t)) : StatusTo c ops s (modify s o f k) :=
  statusTo_dread ho fun v _ => statusTo_dwrite ho fun _ u => statusTo_finish_of_same (hk v (f v) u)

theorem statusTo_copy {k : State → State} (hsrc : ops src) (hdst : ops dst) (hk : ∀ t : State, SameStatus t (k t)) :
    StatusTo c ops s (copy s src dst k) :=
  statusTo_dread hsrc fun _ _ => statusTo_dwrite hdst fun _ u => statusTo_finish_of_same (hk u)

theorem statusTo_shiftMem {f : Byte → Byte × Bool} (ho : ops o) : StatusTo c ops s (shiftMem s o f) :=
  statusTo_modify ho fun _ _ _ => ⟨rfl, rfl, rfl, rfl⟩

theorem statusTo_logicMem {f : Byte → Byte → Byte} (ho : ops o) : StatusTo c ops s (logicMem s o f) :=
  statusTo_modify ho fun _ _ _ => ⟨rfl, rfl, rfl, rfl⟩

theorem statusTo_arithMem {f : Byte → Byte × Bool} (ho : ops o) : StatusTo c ops s (arithMem s o f) :=
  statusTo_modify ho fun _ _ _ => ⟨rfl, rfl, rfl, rfl⟩

theorem statusTo_arithMemX {f : Byte → Byte × Bool} (ho : ops o) : StatusTo c ops s (arithMemX s o f) :=
  statusTo_modify ho fun _ _ _ => ⟨rfl, rfl, rfl, rfl⟩

theorem statusTo_setflag (ho : ops o) : StatusTo c ops s (setflag s o) :=
  statusTo_dread ho fun _ _ => statusTo_ite (statusTo_finish_of_same ⟨rfl, rfl, rfl, rfl⟩) (statusTo_refused _)

theorem statusTo_inTo (ho : ops o) : StatusTo c ops s (inTo s o) := fun t ht =>
  (StatusFrame.of_same (sameStatus_portIn s s.c)).trans (s.portIn_restricted s.c) (statusTo_store ho t ht)

theorem statusTo_jumpIf (taken : Bool) (x : Counter) : StatusTo c ops s (jumpIf s taken x) := by
  refine statusTo_finish_of_same ?_
  split
  · exact .setCnt ⟨rfl, rfl, rfl, rfl⟩
  · exact ⟨rfl, rfl, rfl, rfl⟩

theorem statusTo_linkIf (taken : Bool) (x : Counter) : StatusTo c ops s (linkIf s taken x) := by
  refine statusTo_finish_of_same ?_
  split
  · exact .setCnt ⟨rfl, rfl, rfl, rfl⟩
  · exact ⟨rfl, rfl, rfl, rfl⟩

theorem statusTo_loopTo (x : Counter) (d : Byte) : StatusTo c ops s (loopTo s x d) :=
  statusTo_ite (statusTo_finish (.refl s)) (statusTo_finish_of_same (.setCnt ⟨rfl, rfl, rfl, rfl⟩))

theorem statusTo_loopB (d : Byte) : StatusTo c ops s (loopB s d) :=
  statusTo_ite (statusTo_loopTo _ d) (statusTo_refused _)

theorem statusTo_loopShift {f : Byte → Byte × Bool} (d : Byte) (ho : ops .pointer) :
    StatusTo c ops s (loopShift s f d) :=
  statusTo_ite (statusTo_finish (.refl s))
    (statusTo_modify ho fun _ _ _ => .setCnt ⟨rfl, rfl, rfl, rfl⟩)

theorem statusTo_loopzero (ho : ops .pointer) : StatusTo c ops s (execLoopzero s) :=
  statusTo_ite (statusTo_finish (.refl s))
    (statusTo_dwrite ho fun _ _ => statusTo_finish_of_same (.setCnt ⟨rfl, rfl, rfl, rfl⟩))

/-! #### The writers of a bit -/

/-- `INT k` enters the interrupt, and only outside one (R121, R325). -/
theorem execInt_next {k : BitVec 4} :
    exec (.int k) s = .next t ↔ s.inInt = false ∧ t = { s.enterInterrupt k with pa := false } := by
  change (if s.inInt then _ else _) = _ ↔ _
  cases s.inInt <;> simp

/-- RETI loads the flags and leaves the interrupt, and only inside one (R212, R325). -/
theorem execReti_next {m : BitVec 7} :
    exec (.reti m) s = .next t ↔ s.inInt = true ∧ s.readable (.direct m) ∧
      t = { ((s.afterRead (.direct m)).loadAllFlags (s.byteAt (.direct m))).leaveInterrupt with pa := false } := by
  change (if s.inInt then load _ _ _ else _) = _ ↔ _
  cases s.inInt <;> simp [load_next]

theorem statusTo_clear1 : StatusTo .clear1 ops s (execClear1 s) :=
  statusTo_finish { StatusFrame.refl (c := .clear1) (ops := ops) s with
    ae_set := nofun
    ae_cleared := fun _ _ => rfl }

theorem statusTo_enable : StatusTo .enable ops s (execEnable s) :=
  statusTo_finish { StatusFrame.refl (c := .enable) (ops := ops) s with ef_changed := fun _ => .inl rfl }

theorem statusTo_disable : StatusTo .disable ops s (execDisable s) :=
  statusTo_finish { StatusFrame.refl (c := .disable) (ops := ops) s with ef_changed := fun _ => .inr rfl }

theorem statusTo_int (k : BitVec 4) : StatusTo (.int k) ops s (execInt k s) :=
  statusTo_ite (statusTo_refused _) (statusTo_finish { StatusFrame.refl (c := .int k) (ops := ops) s with
    inInt_set := fun _ _ => ⟨k, rfl⟩
    inInt_cleared := nofun })

theorem statusTo_reti {m : BitVec 7} (ho : ops (.direct m)) : StatusTo (.reti m) ops s (execReti m s) :=
  statusTo_ite (statusTo_dread ho fun _ t => statusTo_finish { StatusFrame.refl (c := .reti m) (ops := ops) t with
    inInt_set := nofun
    inInt_cleared := fun _ _ => ⟨m, rfl⟩ }) (statusTo_refused _)

end Frame

/-- Every ordinary instruction, by the family that gives it its meaning and by the operands it accesses. -/
theorem statusTo_runOrdinary (i : Instr) (s : State) : StatusTo i (accessesThrough i) s (runOrdinary i s) := by
  cases i with
  | rsv01At00 | rsv01From04 | rsv01At23 | rsv01From25 | rsv01From29 | rsv01From32 | rsv01From44 | rsv01At53
  | rsv01From55 | rsv01From59 | clear0 | clearK | rsv01From70 | loadOpt | saveOpt | rsv01AtC3 | rsv01FromC5
  | rsv01FromC9 | rsv01FromE2 | rsv01FromF4 | roopshlc | roopshrc | unused0F | rsv10At7E | rsv11At7E | unusable12
  | unusable13 | unusable14 | unusable15 | unusable16 | unusable17 | unusable18 | unusable19 | unusable1A
  | unusable1B | unused1C | rsv1FAt7F | rsv1FFrom80 | hardMacro | opmsb => exact statusTo_refused _
  | clear1 => exact statusTo_clear1
  | enable => exact statusTo_enable
  | disable => exact statusTo_disable
  | int k => exact statusTo_int k
  | reti m => exact statusTo_reti (.inl rfl)
  | nop | ldAB | ldBA | swap | ldBC | getpc | getmc | usermode | offset | getstat | clc | outputb | ldAN | ldBN | ldCN
  | addAC | addcAC | subAC | subcAC | andAC | andAN | xorAC | xorAN | orAC | orAN =>
    exact statusTo_finish_of_same ⟨rfl, rfl, rfl, rfl⟩
  | setpc | setmc => exact statusTo_ite (statusTo_refused _) (statusTo_finish_of_same ⟨rfl, rfl, rfl, rfl⟩)
  | getver | getid | cpuinfo =>
    exact statusTo_ite (statusTo_finish_of_same ⟨rfl, rfl, rfl, rfl⟩) (statusTo_refused _)
  | pmemacc =>
    refine statusTo_ite ?_ (statusTo_refused _)
    rintro t ⟨⟩
    exact .of_same ⟨rfl, rfl, rfl, rfl⟩
  | inputa =>
    obtain ⟨hi, ha, he, ht⟩ := sameStatus_portIn s s.c
    exact statusTo_finish_of_same ⟨hi, ha, he, ht⟩
  | inout =>
    obtain ⟨hi, ha, he, ht⟩ := sameStatus_portIn (s.portOut s.c s.b) s.c
    exact statusTo_finish_of_same ⟨hi, ha, he, ht⟩
  | jmpM | jmpC0 | jmpC1 | jmpZ0 | jmpZ1 | jmpP | jmpX | jrFwd | jrB | jrBack | jrc0Fwd | jrc0B | jrc0Back | jrc1Fwd
  | jrc1B | jrc1Back | jrz0Fwd | jrz0B | jrz0Back | jrz1Fwd | jrz1B | jrz1Back => exact statusTo_jumpIf _ _
  | balM | balC0 | balC1 | balZ0 | balZ1 | balP | balX | brFwd | brB | brBack | brc0Fwd | brc0B | brc0Back | brc1Fwd
  | brc1B | brc1Back | brz0Fwd | brz0B | brz0Back | brz1Fwd | brz1B | brz1Back => exact statusTo_linkIf _ _
  | setflagD | setflagP | setflagX => exact statusTo_setflag (.inl rfl)
  | inD | inP | inX => exact statusTo_inTo (.inr rfl)
  | stAD | stAX | stBD | zeroX | stCD | stCP | stCX | getflagD | getflagP | getflagX => exact statusTo_store (.inr rfl)
  | outD | outP | outX | addAD | addAX | addcAD | addcAX | subAD | subAX | subcAD | subcAX | andAD | andAX | xorAD
  | xorAX | orAD | orAX | ldAD | ldAP | ldAX | ldBD | ldBP | ldBX | ldCD | ldCP | ldCX =>
    exact statusTo_load (.inl rfl) fun _ _ => ⟨rfl, rfl, rfl, rfl⟩
  | shlD | shlP | shlX | shrD | shrP | shrX | shlcD | shlcP | shlcX | shrcD | shrcP | shrcX =>
    exact statusTo_shiftMem (.inl rfl)
  | andMemD | andMemP | andMemX | xorMemD | xorMemP | xorMemX | orMemD | orMemP | orMemX =>
    exact statusTo_logicMem (.inl rfl)
  | incD | incP | incX | inccD | inccP | inccX | addMemD | addMemP | addMemX | addcMemD | addcMemP | addcMemX | decD
  | decP | decX | deccD | deccP | deccX | subMemD | subMemP | subMemX | subcMemD | subcMemP | subcMemX =>
    exact statusTo_arithMem (.inl rfl)
  | incxD | incxP | incxX | incxcD | incxcP | incxcX | decxD | decxP | decxX | decxcD | decxcP | decxcX =>
    exact statusTo_arithMemX (.inl rfl)
  | stacpD | stacpP | stacpX | stabD | stac | stabX | stabpD | stzcp | stabpX =>
    exact statusTo_copy (.inl rfl) (.inr rfl) fun _ => ⟨rfl, rfl, rfl, rfl⟩
  | loopdecWait | loopdecFwd | loopdecBack | loopincFwd | loopincBack => exact statusTo_loopTo _ _
  | loopdecB | loopincB => exact statusTo_loopB _
  | loopshrc | loopshlc => exact statusTo_loopShift _ (.inl rfl)
  | loopzero => exact statusTo_loopzero (.inr rfl)

/-! #### The words with bit 14 or bit 15 set, and every instruction -/

/-- A millicode end word accesses the operands of the instruction it carries (R302). -/
theorem State.mayAccess_end {s : State} (h : s.mf = true) (op : BitVec 6) (xx : Byte) :
    s.MayAccess (.hardMacro op xx) = accessesThrough (decodeOp op xx) := by
  funext o
  simp [State.MayAccess, accessesThrough, State.readOperand, State.storeOperand, Instr.carried, h]

/-- A millicode entry stores through the direct address 0 (R301). -/
theorem State.mayAccess_entry {s : State} (h : ¬s.mf = true) (op : BitVec 6) (xx : Byte) :
    s.MayAccess (.hardMacro op xx) (.direct 0#7) :=
  .inr (by simp [State.storeOperand, h])

theorem statusTo_macroWord (op : BitVec 6) (xx : Byte) (s : State) :
    StatusTo (decodeOp op xx) (s.MayAccess (.hardMacro op xx)) s (macroWord op xx s) := by
  refine statusTo_ite (statusTo_refused _) (statusTo_ite (statusTo_refused _) ?_)
  split
  · next hmf =>
    rw [State.mayAccess_end hmf]
    exact statusTo_ite (statusTo_refused _)
      (statusTo_mapNext (fun _ => ⟨rfl, rfl, rfl, rfl⟩) (statusTo_runOrdinary _ s))
  · next hmf =>
    exact statusTo_dwrite (State.mayAccess_entry hmf op xx) fun _ _ => statusTo_finish_of_same ⟨rfl, rfl, rfl, rfl⟩

/-- An opmsb word in mode FAST accesses the operands of the instruction it carries (R306). -/
theorem statusTo_fastWord (mac : Bool) (op : BitVec 6) (xx : Byte) (s : State) :
    StatusTo (decodeOp op xx) (accessesThrough (decodeOp op xx)) s (fastWord mac op xx s) := by
  refine statusTo_ite (statusTo_refused _) ?_
  split
  · exact statusTo_refused _
  · next hEntry =>
    have hWord : StatusTo (decodeOp op xx) (accessesThrough (decodeOp op xx)) s
        (if mac then macroWord op xx s else runOrdinary (decodeOp op xx) s) := by
      cases mac with
      | true =>
        have hmf : s.mf = true := by simpa using hEntry
        exact State.mayAccess_end hmf op xx ▸ statusTo_macroWord op xx s
      | false => exact statusTo_runOrdinary _ s
    iterate 2 refine statusTo_ite (statusTo_refused _) ?_
    exact statusTo_mapNext (fun _ => ⟨rfl, rfl, rfl, rfl⟩) hWord

theorem statusTo_execOpmsb (mac : Bool) (op : BitVec 6) (xx : Byte) (s : State) :
    StatusTo (decodeOp op xx) (accessesThrough (decodeOp op xx)) s (execOpmsb mac op xx s) := by
  unfold execOpmsb
  cases s.cfg.opmsbMode with
  | none | debug | parity => exact statusTo_refused _
  | fast => exact statusTo_fastWord mac op xx s

/-- Every instruction, under the ordinary instruction it carries and the operands it accesses in its state. -/
theorem statusTo_exec (i : Instr) (s : State) : StatusTo i.carried (s.MayAccess i) s (exec i s) := by
  have hOrdinary := statusTo_runOrdinary i s
  cases i with
  | hardMacro op xx => exact statusTo_macroWord op xx s
  | opmsb mac op xx => exact statusTo_execOpmsb mac op xx s
  | _ => exact hOrdinary

/-! ### The statements -/

/-- Settles O22: the AE and TM parts of the frame of every instruction. -/
theorem accessErrorSticky : Obligations.AccessErrorSticky := by
  refine ⟨fun i s t h => ?_, fun s k => ⟨s.enterInterrupt_ae k, s.enterInterrupt_tm k⟩⟩
  have hFrame := statusTo_exec i s t h
  exact ⟨hFrame.ae_cleared, hFrame.ae_set, hFrame.tm_eq⟩

section InInterrupt

variable {s : State} (h : s.inInt = true)
include h

/-- In an interrupt routine the active counter is IC, whatever MF is (R27, D10). -/
theorem State.cnt_of_inInt : s.cnt = s.ic := by
  simp [State.cnt, h]

/-- In an interrupt routine OF counts as 0 (R33). -/
theorem State.effOF_of_inInt : s.effOF = 0#2 := by
  simp [State.effOF, h]

/-- In an interrupt routine no request is pending, whatever the lines and AE say (R316). -/
theorem State.pendingInterrupt_of_inInt : s.pendingInterrupt = none := by
  simp [State.pendingInterrupt, h]

theorem execInt_refused_of_inInt (k : BitVec 4) : exec (.int k) s = .refused .intInInterrupt :=
  if_pos h

/-- In an interrupt routine a word with bit 14 set stops, as an extended opcode or by R303. -/
theorem exec_hardMacro_refused_of_inInt (op : BitVec 6) (xx : Byte) :
    ∃ r, exec (.hardMacro op xx) s = .refused r := by
  change ∃ r, macroWord op xx s = .refused r
  cases hExt : s.extended op with
  | true => exact ⟨.extendedOpcode, by simp [macroWord, hExt]⟩
  | false => exact ⟨.hardMacroInInterrupt, by simp [macroWord, hExt, h]⟩

end InInterrupt

/-- Settles O12: the IF part of the frame of every instruction, what INT k and RETI answer, and the laws of a state in
an interrupt routine. -/
theorem inInterruptBit : Obligations.InInterruptBit := by
  refine ⟨fun i s t h => ?_, fun k s t h => ?_, fun m s t h => ?_, fun s k => s.enterInterrupt_inInt k,
    fun s v => ⟨rfl, rfl⟩, fun s h => ⟨State.cnt_of_inInt h, State.effOF_of_inInt h, ?_,
      execInt_refused_of_inInt h, exec_hardMacro_refused_of_inInt h⟩⟩
  · have hFrame := statusTo_exec i s t h
    exact ⟨hFrame.inInt_set, hFrame.inInt_cleared⟩
  · obtain ⟨-, rfl⟩ := execInt_next.1 h
    exact s.enterInterrupt_inInt k
  · obtain ⟨-, -, rfl⟩ := execReti_next.1 h
    rfl
  · exact State.pendingInterrupt_of_inInt (s.sampleLines_inInt.trans h)

end Sys2Proof.Machine
end

section
/-! PROOFS. The encoding family: the fields of a word (R81), the selections by the operand byte (R83 to R86), the rows
of the encoder and the two round trips (R87 to R89), the order of the bytes (R50), the effective addresses (R84) and the
encodings without meaning (R89, R90). -/

namespace Sys2Proof

/-! ### The fields of a word -/

/-- The word of the four fields bit 15, bit 14, OP and xx (R81). -/
def wordOf (msb mac : Bool) (op : BitVec 6) (xx : Byte) : InstrWord :=
  (BitVec.ofBool msb ++ BitVec.ofBool mac ++ op) ++ xx

theorem encodeOp_eq_wordOf (op : BitVec 6) (xx : Byte) : encodeOp op xx = wordOf false false op xx := rfl

/-- Every word has the four fields. -/
theorem exists_wordOf_eq (w : InstrWord) : ∃ msb mac op xx, w = wordOf msb mac op xx := by
  refine ⟨w.getLsbD 15, w.getLsbD 14, w.extractLsb' 8 6, w.extractLsb' 0 8, BitVec.eq_of_getLsbD_eq fun i hi => ?_⟩
  simp only [wordOf, BitVec.getLsbD_append, BitVec.getLsbD_extractLsb', BitVec.getLsbD_ofBool]
  by_cases hxx : i < 8
  · simp [hxx]
  by_cases hop : i - 8 < 6
  · simp [hxx, hop, show 8 + (i - 8) = i by omega]
  have hTop : i = 14 ∨ i = 15 := by omega
  rcases hTop with rfl | rfl <;> simp

/-- The decoder looks at the fields in the order of R82. -/
theorem decode_wordOf (msb mac : Bool) (op : BitVec 6) (xx : Byte) :
    decode (wordOf msb mac op xx) =
      if msb then .opmsb mac op xx else if mac then .hardMacro op xx else decodeOp op xx := by
  have hxx : (wordOf msb mac op xx).extractLsb' 0 8 = xx := BitVec.extractLsb'_append_eq_right
  have hop : (wordOf msb mac op xx).extractLsb' 8 6 = op := by
    refine BitVec.eq_of_getLsbD_eq fun i hi => ?_
    rw [wordOf, BitVec.getLsbD_extractLsb', BitVec.getLsbD_append, BitVec.getLsbD_append]
    simp [hi]
  have hmsb : (wordOf msb mac op xx).getLsbD 15 = msb := by
    rw [wordOf, BitVec.getLsbD_append, BitVec.getLsbD_append, BitVec.getLsbD_append]
    simp
  have hmac : (wordOf msb mac op xx).getLsbD 14 = mac := by
    rw [wordOf, BitVec.getLsbD_append, BitVec.getLsbD_append, BitVec.getLsbD_append]
    simp
  simp only [decode, hxx, hop, hmsb, hmac]

theorem decode_encodeOp (op : BitVec 6) (xx : Byte) : decode (encodeOp op xx) = decodeOp op xx :=
  decode_wordOf false false op xx

/-- The value of two joined bit strings. -/
theorem toNat_append_eq_add {v w : Nat} (x : BitVec v) (y : BitVec w) :
    (x ++ y).toNat = x.toNat * 2 ^ w + y.toNat := by
  rw [BitVec.toNat_append, ← Nat.shiftLeft_add_eq_or_of_lt y.isLt, Nat.shiftLeft_eq]

/-- `wordAt` of a high and a low byte joins the two. -/
theorem wordAt_toNat (hi lo : Byte) : wordAt hi.toNat lo.toNat = hi ++ lo := by
  refine BitVec.eq_of_toNat_eq ?_
  have hHi := hi.isLt
  have hLo := lo.isLt
  rw [wordAt, toNat_append_eq_add, BitVec.toNat_ofNat]
  omega

/-- The high byte of a word in its three fields. -/
theorem toNat_highByte (msb mac : Bool) (op : BitVec 6) :
    (BitVec.ofBool msb ++ BitVec.ofBool mac ++ op).toNat = 128 * msb.toNat + 64 * mac.toNat + op.toNat := by
  rw [toNat_append_eq_add, toNat_append_eq_add, BitVec.toNat_ofBool, BitVec.toNat_ofBool]
  omega

theorem wordAt_eq_wordOf (msb mac : Bool) (op : BitVec 6) (xx : Byte) :
    wordAt (128 * msb.toNat + 64 * mac.toNat + op.toNat) xx.toNat = wordOf msb mac op xx := by
  rw [← toNat_highByte]
  exact wordAt_toNat _ _

theorem wordAt_eq_encodeOp (op : BitVec 6) (xx : Byte) : wordAt op.toNat xx.toNat = encodeOp op xx := by
  rw [encodeOp_eq_wordOf, ← wordAt_eq_wordOf]
  simp

/-! ### The selections by the operand byte -/

/-- An operand byte is its top bit, the choice of a form, and the number m (R84). -/
theorem byte_eq_append (xx : Byte) : xx = 0#1 ++ xx.setWidth 7 ∨ xx = 1#1 ++ xx.setWidth 7 := by
  have hCons : BitVec.ofBool xx.msb ++ xx.setWidth 7 = xx := BitVec.cons_msb_setWidth xx
  cases hTop : xx.msb with
  | false => exact .inl (hTop ▸ hCons).symm
  | true => exact .inr (hTop ▸ hCons).symm

@[simp] theorem msb_zero_append (m : BitVec 7) : (0#1 ++ m : Byte).msb = false := BitVec.msb_append

@[simp] theorem msb_one_append (m : BitVec 7) : (1#1 ++ m : Byte).msb = true := BitVec.msb_append

@[simp] theorem toNat_zero_append (m : BitVec 7) : (0#1 ++ m : Byte).toNat = m.toNat :=
  (toNat_append_eq_add 0#1 m).trans (by simp)

@[simp] theorem toNat_one_append (m : BitVec 7) : (1#1 ++ m : Byte).toNat = 128 + m.toNat :=
  toNat_append_eq_add 1#1 m

@[simp] theorem setWidth_zero_append (m : BitVec 7) : (0#1 ++ m : Byte).setWidth 7 = m :=
  BitVec.setWidth_append_eq_right

@[simp] theorem setWidth_one_append (m : BitVec 7) : (1#1 ++ m : Byte).setWidth 7 = m :=
  BitVec.setWidth_append_eq_right

/-- The byte of form X, as a number. -/
theorem ofNat_add_toNat (m : BitVec 7) : BitVec.ofNat 8 (128 + m.toNat) = 1#1 ++ m := by
  refine BitVec.eq_of_toNat_eq ?_
  rw [BitVec.toNat_ofNat, toNat_one_append]
  omega

section Selections

variable {xx : Byte} {m : BitVec 7} {d x : BitVec 7 → Instr} {fwd back : Byte → Instr}
variable {p zero unusable inB c0 c1 z0 z1 reserved : Instr}

theorem byForm_direct (hm : m ≠ 127#7) : byForm (0#1 ++ m) d p x = d m := by
  have hne : 0#1 ++ m ≠ 0x7F#8 := fun h => hm (BitVec.eq_of_toNat_eq (by simpa using congrArg BitVec.toNat h))
  simp [byForm, hne]

theorem byForm_indexed : byForm (1#1 ++ m) d p x = x m := by
  simp [byForm]

theorem decodeJump_absolute (hm : m.toNat ≤ 121) :
    decodeJump (0#1 ++ m) d c0 c1 z0 z1 reserved p x = d m := by
  have hle : (0#1 ++ m : Byte) ≤ 0x79#8 := by simpa [BitVec.le_def] using hm
  simp [decodeJump, hle]

theorem decodeJump_indexed : decodeJump (1#1 ++ m) d c0 c1 z0 z1 reserved p x = x m := by
  simp [decodeJump]

theorem byOffset_forward (hx : xx.toNat ≤ 126) : byOffset xx fwd unusable inB back = fwd xx := by
  have h127 : xx ≠ 0x7F#8 := by bv_omega
  have h128 : xx ≠ 0x80#8 := by bv_omega
  have hTop : xx.msb = false := by simp [BitVec.msb_eq_decide]; omega
  simp [byOffset, h127, h128, hTop]

theorem byOffset_back (hx : 129 ≤ xx.toNat) : byOffset xx fwd unusable inB back = back xx := by
  have h127 : xx ≠ 0x7F#8 := by bv_omega
  have h128 : xx ≠ 0x80#8 := by bv_omega
  have hTop : xx.msb = true := by simp [BitVec.msb_eq_decide]; omega
  simp [byOffset, h127, h128, hTop]

/-- Any byte but 00h is an offset of a loop as of a branch (R86). -/
theorem byLoopOffset_of_pos (hx : 1 ≤ xx.toNat) :
    byLoopOffset xx zero fwd unusable inB back = byOffset xx fwd unusable inB back :=
  if_neg (by bv_omega)

end Selections

/-! ### Decoding the encoder's words -/

/-- The range of an operand byte, in numbers. -/
theorem toNat_range {lo hi xx : Byte} (h : (decide (lo ≤ xx) && decide (xx ≤ hi)) = true) :
    lo.toNat ≤ xx.toNat ∧ xx.toNat ≤ hi.toNat := by
  simpa [BitVec.le_def] using h

/-- Settles O1, by the place of the operand in the word: a byte, a form of R84, a jump, an offset, a byte or a number
of OP 01; a row without operand is one word. -/
theorem decodeEncodeRoundTrip : Obligations.DecodeEncodeRoundTrip := by
  intro i h
  cases i with
  | hardMacro op xx => exact decode_wordOf false true op xx
  | opmsb mac op xx => exact decode_wordOf true mac op xx
  | setflagD | stAD | stBD | shlD | shrD | andMemD | stCD | xorMemD | getflagD | orMemD | inD | outD | reti | incD
  | inccD | incxD | incxcD | addMemD | addcMemD | addAD | addcAD | shlcD | shrcD | ldAD | ldBD | ldCD | stacpD | stabD
  | stabpD | decD | deccD | decxD | decxcD | subMemD | subcMemD | subAD | subcAD | andAD | xorAD | orAD =>
    exact (decode_encodeOp _ _).trans (byForm_direct (of_decide_eq_true h))
  | setflagX | stAX | zeroX | shlX | shrX | andMemX | stCX | xorMemX | getflagX | orMemX | inX | outX | rsv1FFrom80
  | incX | inccX | incxX | incxcX | addMemX | addcMemX | addAX | addcAX | shlcX | shrcX | ldAX | ldBX | ldCX | stacpX
  | stabX | stabpX | decX | deccX | decxX | decxcX | subMemX | subcMemX | subAX | subcAX | andAX | xorAX | orAX =>
    exact (decode_encodeOp _ _).trans byForm_indexed
  | jmpM | balM => exact (decode_encodeOp _ _).trans (decodeJump_absolute (of_decide_eq_true h))
  | jmpX | balX => exact (decode_encodeOp _ _).trans decodeJump_indexed
  | jrFwd | brFwd | jrc0Fwd | brc0Fwd | jrc1Fwd | brc1Fwd | jrz0Fwd | brz0Fwd | jrz1Fwd | brz1Fwd =>
    exact (decode_encodeOp _ _).trans (byOffset_forward (of_decide_eq_true h))
  | jrBack | brBack | jrc0Back | brc0Back | jrc1Back | brc1Back | jrz0Back | brz0Back | jrz1Back | brz1Back =>
    exact (decode_encodeOp _ _).trans (byOffset_back (of_decide_eq_true h))
  | loopdecFwd | loopincFwd =>
    have ⟨hLo, hHi⟩ := toNat_range h
    exact (decode_encodeOp _ _).trans ((byLoopOffset_of_pos hLo).trans (byOffset_forward hHi))
  | loopdecBack n | loopincBack n =>
    have hLo : 129 ≤ n.toNat := of_decide_eq_true h
    exact (decode_encodeOp _ _).trans ((byLoopOffset_of_pos (by omega)).trans (byOffset_back hLo))
  | rsv01From04 xx | rsv01From25 xx | rsv01From29 xx | rsv01From32 xx | rsv01From44 xx | rsv01From55 xx | rsv01From59 xx
  | rsv01From70 xx | rsv01FromC5 xx | rsv01FromC9 xx | rsv01FromE2 xx | rsv01FromF4 xx =>
    -- Every test that `decodeControl` makes before the row's own is about a smaller byte
    have ⟨hLo, hHi⟩ := toNat_range h
    refine (decode_encodeOp _ _).trans (show decodeControl xx = _ from ?_)
    simp only [BitVec.toNat_ofNat, Nat.reducePow, Nat.reduceMod] at hLo hHi
    simp only [decodeControl, BitVec.le_def, ← BitVec.toNat_inj, BitVec.toNat_ofNat, Nat.reducePow, Nat.reduceMod]
    simp (disch := omega) only [↓if_neg, ↓if_pos]
  | usermode k | offset k | clearK k | int k =>
    refine (decode_encodeOp _ _).trans ?_
    revert k
    decide
  | _ => exact decode_encodeOp _ _

/-! ### The rows of the encoder -/

/-- `i` is the instruction of the table at OP `op` and operand byte `xx`: well-formed, and the word is its own (R87). -/
def IsRow (op : BitVec 6) (xx : Byte) (i : Instr) : Prop := i.wf = true ∧ encode i = encodeOp op xx

/-- The table has at most one row at an OP and an operand byte, the one the decoder selects. -/
theorem IsRow.decodeOp_eq {op : BitVec 6} {xx : Byte} {i : Instr} (h : IsRow op xx i) : decodeOp op xx = i := by
  obtain ⟨hwf, hWord⟩ := h
  rw [← decode_encodeOp, ← hWord]
  exact decodeEncodeRoundTrip i hwf

section Rows

variable {op : BitVec 6} {d x : BitVec 7 → Instr} {fwd back : Byte → Instr}
variable {p zero at127 inB c0 c1 z0 z1 reserved : Instr}

theorem isRow_byForm (hDirect : ∀ m, m ≠ 127#7 → IsRow op (0#1 ++ m) (d m)) (hPointer : IsRow op 0x7F#8 p)
    (hIndexed : ∀ m, IsRow op (1#1 ++ m) (x m)) (xx : Byte) : IsRow op xx (byForm xx d p x) := by
  rcases byte_eq_append xx with hxx | hxx
  · by_cases hm : xx.setWidth 7 = 127#7
    · obtain rfl : xx = 0x7F#8 := by rw [hxx, hm]; rfl
      exact hPointer
    · rw [hxx, byForm_direct hm]
      exact hDirect _ hm
  · rw [hxx, byForm_indexed]
    exact hIndexed _

theorem isRow_decodeJump (hAbsolute : ∀ m : BitVec 7, m.toNat ≤ 121 → IsRow op (0#1 ++ m) (d m))
    (h7A : IsRow op 0x7A#8 c0) (h7B : IsRow op 0x7B#8 c1) (h7C : IsRow op 0x7C#8 z0) (h7D : IsRow op 0x7D#8 z1)
    (h7E : IsRow op 0x7E#8 reserved) (h7F : IsRow op 0x7F#8 p) (hIndexed : ∀ m, IsRow op (1#1 ++ m) (x m))
    (xx : Byte) : IsRow op xx (decodeJump xx d c0 c1 z0 z1 reserved p x) := by
  rcases byte_eq_append xx with hxx | hxx
  · by_cases hm : (xx.setWidth 7).toNat ≤ 121
    · rw [hxx, decodeJump_absolute hm]
      exact hAbsolute _ hm
    · have hNat : xx.toNat = (xx.setWidth 7).toNat := (congrArg BitVec.toNat hxx).trans (toNat_zero_append _)
      have hLast : xx = 0x7A#8 ∨ xx = 0x7B#8 ∨ xx = 0x7C#8 ∨ xx = 0x7D#8 ∨ xx = 0x7E#8 ∨ xx = 0x7F#8 := by
        bv_omega
      rcases hLast with rfl | rfl | rfl | rfl | rfl | rfl
      exacts [h7A, h7B, h7C, h7D, h7E, h7F]
  · rw [hxx, decodeJump_indexed]
    exact hIndexed _

theorem isRow_byOffset {xx : Byte} (hForward : xx.toNat ≤ 126 → IsRow op xx (fwd xx)) (h127 : IsRow op 0x7F#8 at127)
    (h128 : IsRow op 0x80#8 inB) (hBack : 129 ≤ xx.toNat → IsRow op xx (back xx)) :
    IsRow op xx (byOffset xx fwd at127 inB back) := by
  have hPlace : xx.toNat ≤ 126 ∨ xx = 0x7F#8 ∨ xx = 0x80#8 ∨ 129 ≤ xx.toNat := by bv_omega
  rcases hPlace with hLow | rfl | rfl | hHigh
  · rw [byOffset_forward hLow]
    exact hForward hLow
  · exact h127
  · exact h128
  · rw [byOffset_back hHigh]
    exact hBack hHigh

theorem isRow_byLoopOffset {xx : Byte} (hZero : IsRow op 0x00#8 zero)
    (hForward : 1 ≤ xx.toNat → xx.toNat ≤ 126 → IsRow op xx (fwd xx)) (h127 : IsRow op 0x7F#8 at127)
    (h128 : IsRow op 0x80#8 inB) (hBack : 129 ≤ xx.toNat → IsRow op xx (back xx)) :
    IsRow op xx (byLoopOffset xx zero fwd at127 inB back) := by
  by_cases hx : xx = 0x00#8
  · subst hx
    exact hZero
  · have hPos : 1 ≤ xx.toNat := by bv_omega
    rw [byLoopOffset_of_pos hPos]
    exact isRow_byOffset (hForward hPos) h127 h128 hBack

end Rows

/-- Every operand byte of OP 01 (R88, R89), by the branches of `decodeControl`: rows that keep their byte, rows with a
number k, CLEAR k for k of 2 and above, rows of one byte. -/
theorem isRow_decodeControl (xx : Byte) : IsRow 0x01#6 xx (decodeControl xx) := by
  fun_cases decodeControl xx with
  | case5 | case11 | case13 | case15 | case17 | case22 | case24 | case28 | case33 | case35 | case39 | case43 =>
    refine ⟨?_, rfl⟩
    simp only [Instr.wf, Bool.and_eq_true, decide_eq_true_eq]
    bv_omega
  | case14 | case16 | case36 =>
    refine ⟨rfl, congrArg (encodeOp _) ?_⟩
    bv_omega
  | case27 =>
    refine ⟨decide_eq_true ?_, congrArg (encodeOp _) ?_⟩ <;> bv_omega
  | _ =>
    subst xx
    exact ⟨rfl, rfl⟩

/-! ### Every word -/

/-- The OP codes whose operand byte is kept as it is. -/
def byteOps : List (BitVec 6) := [0x00#6, 0x02#6, 0x03#6, 0x04#6, 0x0F#6, 0x1C#6, 0x3B#6, 0x3D#6, 0x3F#6]

/-- The OP codes with the jump selector. -/
def jumpOps : List (BitVec 6) := [0x10#6, 0x11#6]

/-- The branch OP codes, with a relative offset. -/
def branchOps : List (BitVec 6) :=
  [0x12#6, 0x13#6, 0x14#6, 0x15#6, 0x16#6, 0x17#6, 0x18#6, 0x19#6, 0x1A#6, 0x1B#6]

/-- The loop OP codes. -/
def loopOps : List (BitVec 6) := [0x38#6, 0x39#6]

/-- The OP codes with the three address forms. -/
def formOps : List (BitVec 6) :=
  [0x05#6, 0x06#6, 0x07#6, 0x08#6, 0x09#6, 0x0A#6, 0x0B#6, 0x0C#6, 0x0D#6, 0x0E#6, 0x1D#6, 0x1E#6, 0x1F#6, 0x20#6,
    0x21#6, 0x22#6, 0x23#6, 0x24#6, 0x25#6, 0x26#6, 0x27#6, 0x28#6, 0x29#6, 0x2A#6, 0x2B#6, 0x2C#6, 0x2D#6, 0x2E#6,
    0x2F#6, 0x30#6, 0x31#6, 0x32#6, 0x33#6, 0x34#6, 0x35#6, 0x36#6, 0x37#6, 0x3A#6, 0x3C#6, 0x3E#6]

/-- Each OP selects by its operand byte in one of six ways (R83). -/
theorem op_cases (op : BitVec 6) :
    op = 0x01#6 ∨ op ∈ byteOps ∨ op ∈ jumpOps ∨ op ∈ branchOps ∨ op ∈ loopOps ∨ op ∈ formOps := by
  revert op
  decide

/-- The decoder selects a row of the table at every OP and operand byte. -/
theorem isRow_decodeOp (op : BitVec 6) (xx : Byte) : IsRow op xx (decodeOp op xx) := by
  rcases op_cases op with rfl | h | h | h | h | h
  · exact isRow_decodeControl xx
  · fin_cases h
    all_goals exact ⟨rfl, rfl⟩
  · fin_cases h
    all_goals
      apply isRow_decodeJump
      case hAbsolute => exact fun m hm => ⟨decide_eq_true hm, rfl⟩
      case hIndexed => exact fun m => ⟨rfl, rfl⟩
      all_goals exact ⟨rfl, rfl⟩
  · fin_cases h
    all_goals
      apply isRow_byOffset
      case hForward | hBack => exact fun hx => ⟨decide_eq_true hx, rfl⟩
      all_goals exact ⟨rfl, rfl⟩
  · fin_cases h
    all_goals
      apply isRow_byLoopOffset
      case hForward =>
        exact fun hLo hHi => ⟨Bool.and_eq_true_iff.2 ⟨decide_eq_true hLo, decide_eq_true hHi⟩, rfl⟩
      case hBack => exact fun hx => ⟨decide_eq_true hx, rfl⟩
      all_goals exact ⟨rfl, rfl⟩
  · fin_cases h
    all_goals
      apply isRow_byForm
      case hDirect => exact fun m hm => ⟨decide_eq_true hm, rfl⟩
      case hPointer => exact ⟨rfl, rfl⟩
      case hIndexed => exact fun m => ⟨rfl, rfl⟩

/-- Settles O2: a word with bit 15 or bit 14 set keeps all its fields, any other is a row by OP and xx. -/
theorem encodeDecodeRoundTrip : Obligations.EncodeDecodeRoundTrip := by
  intro w
  obtain ⟨msb, mac, op, xx, rfl⟩ := exists_wordOf_eq w
  rw [decode_wordOf]
  cases msb with
  | true => exact ⟨rfl, rfl⟩
  | false =>
    cases mac with
    | true => exact ⟨rfl, rfl⟩
    | false => exact isRow_decodeOp op xx

/-! ### The opcode map -/

theorem decode_wordAt {op : Nat} (hop : op < 64) (xx : Byte) :
    decode (wordAt op xx.toNat) = decodeOp (BitVec.ofNat 6 op) xx := by
  have hWord := wordAt_eq_encodeOp (BitVec.ofNat 6 op) xx
  rw [BitVec.toNat_ofNat, Nat.mod_eq_of_lt hop] at hWord
  rw [hWord, decode_encodeOp]

section OpcodeMap

variable {op : Nat} {d x : BitVec 7 → Instr} {fwd back : Byte → Instr} {p at127 inB c0 c1 z0 z1 reserved : Instr}

theorem encodedBytes {i : Byte → Instr} (h : ∀ xx, decodeOp (BitVec.ofNat 6 op) xx = i xx)
    (hop : op < 64 := by decide) : EncodedBytes op i :=
  fun n => (decode_wordAt hop n).trans (h n)

theorem encodedForms (h : ∀ xx, decodeOp (BitVec.ofNat 6 op) xx = byForm xx d p x) (hop : op < 64 := by decide) :
    EncodedForms op d p x := by
  refine ⟨fun m hm => ?_, (decode_wordAt hop 0x7F#8).trans (h _), fun m => ?_⟩
  · rw [← toNat_zero_append, decode_wordAt hop, h, byForm_direct hm]
  · rw [← toNat_one_append, decode_wordAt hop, h, byForm_indexed]

theorem encodedJumps (h : ∀ xx, decodeOp (BitVec.ofNat 6 op) xx = decodeJump xx d c0 c1 z0 z1 reserved p x)
    (hop : op < 64 := by decide) : EncodedJumps op d c0 c1 z0 z1 reserved p x := by
  have hAt (xx : Byte) := (decode_wordAt hop xx).trans (h xx)
  refine ⟨fun m hm => ?_, hAt 0x7A#8, hAt 0x7B#8, hAt 0x7C#8, hAt 0x7D#8, hAt 0x7E#8, hAt 0x7F#8, fun m => ?_⟩
  · rw [← toNat_zero_append, hAt, decodeJump_absolute hm]
  · rw [← toNat_one_append, hAt, decodeJump_indexed]

theorem encodedOffsets {first : Nat}
    (h : ∀ xx : Byte, first ≤ xx.toNat → decodeOp (BitVec.ofNat 6 op) xx = byOffset xx fwd at127 inB back)
    (hop : op < 64 := by decide) (hFirst : first ≤ 127 := by decide) :
    EncodedOffsets op first fwd at127 inB back := by
  have hAt (xx : Byte) (hx : first ≤ xx.toNat) := (decode_wordAt hop xx).trans (h xx hx)
  refine ⟨fun n hLo hHi => ?_, hAt 0x7F#8 hFirst, hAt 0x80#8 (Nat.le_succ_of_le hFirst), fun n hn => ?_⟩
  · rw [hAt n hLo, byOffset_forward hHi]
  · rw [hAt n (by omega), byOffset_back hn]

end OpcodeMap

/-- Settles O5: what each OP selects by is read off the decoder; the selections above say at which bytes. -/
theorem opcodeMap : Obligations.OpcodeMap := by
  unfold Obligations.OpcodeMap
  iterate 9 refine ⟨encodedBytes fun _ => rfl, ?_⟩
  iterate 40 refine ⟨encodedForms fun _ => rfl, ?_⟩
  iterate 2 refine ⟨encodedJumps fun _ => rfl, ?_⟩
  iterate 10 refine ⟨encodedOffsets fun _ _ => rfl, ?_⟩
  iterate 2 refine ⟨⟨rfl, encodedOffsets fun _ hPos => byLoopOffset_of_pos hPos⟩, ?_⟩
  refine ⟨fun op xx => ?_, fun op xx mac => ?_⟩
  · exact (congrArg decode (wordAt_eq_wordOf false true op xx)).trans (decode_wordOf false true op xx)
  · exact (congrArg decode (wordAt_eq_wordOf true mac op xx)).trans (decode_wordOf true mac op xx)

/-- A row of OP 01, at its word. -/
theorem decode_control {xx : Byte} {i : Instr} (h : IsRow 0x01#6 xx i) : decode (wordAt 0x01 xx.toNat) = i :=
  (decode_wordAt (by decide) xx).trans h.decodeOp_eq

/-- A row of OP 01 with a number k, at the word with k added to the first byte of the row. -/
theorem decode_control_number {w : Nat} {first : Byte} {k : BitVec w} {i : Instr}
    (h : IsRow 0x01#6 (first + k.setWidth 8) i) (hk : first.toNat + k.toNat < 256) :
    decode (wordAt 0x01 (first.toNat + k.toNat)) = i := by
  have hByte : (first + k.setWidth 8).toNat = first.toNat + k.toNat := by
    rw [BitVec.toNat_add, BitVec.toNat_setWidth]
    omega
  rw [← hByte]
  exact decode_control h

/-- Settles O6: each clause names a row of the table, and O1 says that its word decodes to it. -/
theorem controlOpcodeMap : Obligations.ControlOpcodeMap := by
  unfold Obligations.ControlOpcodeMap
  refine ⟨rfl, rfl, rfl, rfl, ?_, rfl, rfl, rfl, rfl, rfl, ?_, rfl, ?_, ?_, ?_, rfl, rfl, rfl, rfl, ?_, rfl, ?_, rfl,
    rfl, ?_, rfl, rfl, rfl, rfl, ?_, rfl, ?_, rfl, rfl, ?_, rfl, rfl, rfl, ?_, fun k => ?_, fun k => ?_,
    fun k hk => ?_, fun k => ?_⟩
  iterate 12
    exact fun _ hLo hHi => decode_control ⟨Bool.and_eq_true_iff.2 ⟨decide_eq_true hLo, decide_eq_true hHi⟩, rfl⟩
  · exact decode_control_number (first := 0x30#8) ⟨rfl, rfl⟩ (by simp; omega)
  · exact decode_control_number (first := 0x40#8) ⟨rfl, rfl⟩ (by simp; omega)
  · exact decode_control_number (first := 0x60#8) ⟨decide_eq_true hk, rfl⟩ (by simp; omega)
  · exact decode_control_number (first := 0xD0#8) ⟨rfl, rfl⟩ (by simp; omega)

/-! ### The order of the bytes -/

/-- The two bytes of an instruction in storage order make its word again (R50, R81). -/
theorem decodeBytes_encodeBytes_append (i : Instr) (rest : List Byte) :
    decodeBytes (encodeBytes i ++ rest) = .ok (decode (encode i), rest) := by
  have hWord : wordOfBytes ((encode i).extractLsb' 0 8) ((encode i).extractLsb' 8 8) = encode i :=
    (BitVec.extractLsb'_append_extractLsb'_eq_extractLsb' rfl).trans BitVec.extractLsb'_eq_self
  exact congrArg (fun w => Except.ok (decode w, rest)) hWord

/-- The low byte of a word, then its high byte, in numbers. -/
theorem encodeBytes_eq (i : Instr) :
    encodeBytes i = [BitVec.ofNat 8 (encode i).toNat, BitVec.ofNat 8 ((encode i).toNat / 256)] := by
  rw [encodeBytes, BitVec.extractLsb', BitVec.extractLsb', Nat.shiftRight_zero, Nat.shiftRight_eq_div_pow]

/-- Settles O3: O1 on the word of the two bytes. -/
theorem bytesInStorageOrder : Obligations.BytesInStorageOrder := by
  refine ⟨encodeBytes_eq, fun i rest h => ?_, rfl, fun v => rfl⟩
  rw [decodeBytes_encodeBytes_append, decodeEncodeRoundTrip i h]

end Sys2Proof

namespace Sys2Proof.Machine

/-! ### Effective addresses -/

/-- OF as the addresses use it, in numbers (R33). -/
theorem State.toNat_effOF (s : State) : s.effOF.toNat = if s.inInt then 0 else s.ofs.toNat := by
  unfold State.effOF
  split <;> rfl

/-- A pair of bytes counts its high byte 256 times (R7). -/
theorem toNat_pair (h l : Byte) : (pair h l).toNat = h.toNat * 256 + l.toNat := toNat_append_eq_add h l

/-- Settles O14: each address is two joined fields, no wider than 16 bits. -/
theorem effectiveAddresses : Obligations.EffectiveAddresses := by
  intro s m
  have hm := m.isLt
  have hb := s.b.isLt
  have hc := s.c.isLt
  have hOF := s.effOF.isLt
  refine ⟨?_, toNat_pair s.a s.b, ?_, toNat_pair s.a s.c, ?_⟩
  · have hMul : s.effOF.toNat * 128 = if s.inInt then 0 else s.ofs.toNat * 128 := by
      rw [s.toNat_effOF]
      split <;> simp
    rw [State.ea, BitVec.toNat_setWidth, toNat_append_eq_add, ← hMul]
    omega
  · rw [State.ea, BitVec.toNat_setWidth, toNat_append_eq_add]
    omega
  · rw [State.ea, BitVec.toNat_setWidth]
    omega

/-! ### Encodings without meaning -/

/-- Settles O60: the meaning of each of these rows is its refusal, whatever the state; the byte of OP 1F at 80h and above
is 128 + m. -/
theorem reservedEncodingsRefused : Obligations.ReservedEncodingsRefused := by
  unfold Obligations.ReservedEncodingsRefused
  refine ⟨fun _ => rfl, fun _ _ => rfl, fun _ => rfl, fun _ _ => rfl, fun _ _ => rfl, fun _ _ => rfl, fun _ _ => rfl,
    fun _ => rfl, fun _ _ => rfl, fun _ _ => rfl, fun _ _ => rfl, fun _ => rfl, fun _ _ => rfl, fun _ _ => rfl,
    fun _ _ => rfl, fun _ _ => rfl, fun _ => rfl, fun _ _ => rfl, fun _ => rfl, fun _ => rfl, fun _ => rfl,
    fun _ => rfl, fun _ _ => rfl, fun _ _ => rfl, fun _ => rfl, fun _ => rfl, fun _ => rfl, fun _ => rfl, fun _ => rfl,
    fun _ => rfl, fun _ => rfl, fun _ => rfl, fun _ => rfl, fun _ => rfl, fun _ => rfl, fun _ => rfl, fun _ => rfl,
    fun m s => ?_⟩
  rw [ofNat_add_toNat]
  rfl

end Sys2Proof.Machine
end

section
/-! PROOFS. The NOP and control family: the register moves (R102 to R105), OF, CF and EF (R111, R119, R122, R123), the
boundary by what is pending (R316), and the software interrupt (R121, R318). -/

namespace Sys2Proof.Machine

/-! ### Register moves -/

/-- Settles O31: the words by the round trip O1, each meaning one assignment before the common end. -/
theorem registerMoves : Obligations.RegisterMoves :=
  ⟨decodeEncodeRoundTrip .ldAB rfl, decodeEncodeRoundTrip .ldBA rfl, decodeEncodeRoundTrip .swap rfl,
    decodeEncodeRoundTrip .ldBC rfl, fun _ => rfl, fun _ => rfl, fun _ => rfl, fun _ => rfl⟩

/-! ### The boundary -/

section Boundary

variable {s : State}

@[simp] theorem State.sampleLines_accessError (s : State) : s.sampleLines.accessError = s.accessError := by
  simp [State.accessError]

/-- With EF = 0 no request is pending, whatever the lines and AE say (R315, R316). -/
theorem State.pendingInterrupt_of_disabled (h : s.ef = false) : s.pendingInterrupt = none := by
  simp [State.pendingInterrupt, h]

/-- With IF = 0 and EF = 1 a request is pending, INT0 before the two that share number 15 (R316, R317). -/
theorem State.pendingInterrupt_of_request (hIF : s.inInt = false) (hEF : s.ef = true)
    (hReq : s.lines.int0 = true ∨ s.lines.int1 = true ∨ s.accessError = true) :
    s.pendingInterrupt = some (if s.lines.int0 then 0#4 else 15#4) := by
  simp [State.pendingInterrupt, hIF, hEF, or_assoc, hReq]

/-- Where nothing is pending the step is the fetched instruction. -/
theorem step_of_none_pending (h : s.sampleLines.pendingInterrupt = none) :
    step s = s.sampleLines.fetchInstr.andThen exec := by
  simp [step, h]

/-- Where a request is pending the step is its entry. -/
theorem step_of_pending {k : BitVec 4} (h : s.sampleLines.pendingInterrupt = some k) :
    step s = .next (s.sampleLines.enterInterrupt k) := by
  simp [step, h]

/-- A boundary outside a routine with EF = 1 takes what the lines just sampled or AE request. -/
theorem step_of_request (hIF : s.inInt = false) (hEF : s.ef = true)
    (hReq : s.sampleLines.lines.int0 = true ∨ s.sampleLines.lines.int1 = true ∨ s.accessError = true) :
    step s = .next (s.sampleLines.enterInterrupt (if s.sampleLines.lines.int0 then 0#4 else 15#4)) :=
  step_of_pending (State.pendingInterrupt_of_request (s.sampleLines_inInt.trans hIF) (s.sampleLines_ef.trans hEF)
    (by rwa [State.sampleLines_accessError]))

end Boundary

/-! ### OF, CF and EF -/

/-- ENABLE has one next state (R123). -/
theorem execEnable_next {s t : State} : exec .enable s = .next t ↔ t = { s with ef := true, pa := false } :=
  finish_next

/-- The bytes 44h to 4Fh of OP 01 lie in a reserved row and are refused (R89, D22). -/
theorem refuses_offset_above_three {xx : Byte} (hLo : 0x44 ≤ xx.toNat) (hHi : xx.toNat ≤ 0x4F) :
    Refuses (decode (wordAt 0x01 xx.toNat)) (.reservedEncoding 0x01#6 xx) := by
  have hRow : IsRow 0x01#6 xx (.rsv01From44 xx) :=
    ⟨Bool.and_eq_true_iff.2 ⟨decide_eq_true hLo, decide_eq_true (hHi.trans (by decide))⟩, rfl⟩
  rw [decode_control hRow]
  exact fun _ => rfl

/-- Settles O33: the words are rows of OP 01; with EF = 0 nothing is pending at a boundary, and ENABLE leaves EF = 1 and
IF as it was, so the next boundary takes a request. -/
theorem offsetAndEnableBits : Obligations.OffsetAndEnableBits := by
  refine ⟨fun k => ⟨?_, fun _ => rfl⟩, fun s h => State.effOF_of_inInt h, fun xx => refuses_offset_above_three,
    decodeEncodeRoundTrip .clc rfl, decodeEncodeRoundTrip .disable rfl, decodeEncodeRoundTrip .enable rfl,
    fun _ => rfl, fun _ => rfl, fun _ => rfl, fun s hEF => ?_, fun s t hExec hIF hReq => ?_⟩
  · exact decode_control_number (first := 0x40#8) ⟨rfl, rfl⟩ (by simp; omega)
  · exact step_of_none_pending (State.pendingInterrupt_of_disabled (s.sampleLines_ef.trans hEF))
  · obtain rfl := execEnable_next.1 hExec
    exact ⟨_, step_of_request hIF rfl hReq⟩

/-! ### The software interrupt -/

/-- The vector of interrupt `k` in numbers; none is beyond 62 (R320). -/
theorem toNat_vector (k : BitVec 4) : (vector k).toNat = 32 + 2 * k.toNat := by
  have hk := k.isLt
  simp only [vector, BitVec.toNat_add, BitVec.toNat_shiftLeft, BitVec.toNat_setWidth, BitVec.toNat_ofNat,
    Nat.shiftLeft_eq]
  omega

/-- A counter of at least 9 bits holds every vector (R24, R320). -/
theorem wrap_vector {c : Config} (hW : 9 ≤ c.width) (k : BitVec 4) :
    c.wrap (vector k) = BitVec.ofNat 17 (32 + 2 * k.toNat) := by
  have hFits : 32 + 2 * k.toNat < 2 ^ c.width :=
    calc 32 + 2 * k.toNat < 2 ^ 9 := by omega
      _ ≤ 2 ^ c.width := Nat.pow_le_pow_right (by decide) hW
  rw [Config.wrap, toNat_vector, Nat.mod_eq_of_lt hFits]

/-- Interrupt entry writes IF and IC and nothing else (R318). -/
theorem State.enterInterrupt_eq {s : State} (hW : 9 ≤ s.cfg.width) (k : BitVec 4) :
    s.enterInterrupt k = { s with inInt := true, ic := BitVec.ofNat 17 (32 + 2 * k.toNat) } := by
  rw [State.enterInterrupt, State.setIc, wrap_vector hW]

/-- Settles O37: outside a routine INT k is the entry of R318, which asks nothing of EF; inside one it is refused. -/
theorem softwareInterrupt : Obligations.SoftwareInterrupt := by
  refine fun k => ⟨?_, fun s hW hIF => ?_, fun s hIF => execInt_refused_of_inInt hIF k⟩
  · exact decode_control_number (first := 0xD0#8) ⟨rfl, rfl⟩ (by simp; omega)
  · rw [execInt_next.2 ⟨hIF, rfl⟩, State.enterInterrupt_eq hW]

end Sys2Proof.Machine
end

section
/-! PROOFS. The immediate loads (R141, R142, R144). -/

namespace Sys2Proof.Machine

/-- Settles O32: OP 02, 03 and 04 select no address form by the operand byte, so every xx is a number n, and each meaning
is one assignment before the common end, with no access between. -/
theorem immediateLoads : Obligations.ImmediateLoads := by
  intro n
  refine ⟨?ldAN, ?ldBN, ?ldCN, fun _ => rfl, fun _ => rfl, fun _ => rfl⟩
  case ldAN | ldBN | ldCN => exact decode_wordAt (by decide) n

end Sys2Proof.Machine
end

section
/-! PROOFS. The memory shift and logic family (R160 to R166): what a read-modify-write instruction does where both its
accesses are carried out (R62), and the shifts in numbers. -/

namespace Sys2Proof.Machine

/-! ### Read, modify, write -/

/-- A claim that follows from another for one instruction and operand follows for the three forms of an opcode (R84). -/
theorem AllForms.imp {d x : BitVec 7 → Instr} {p : Instr} {claim claim' : Instr → Operand → Prop}
    (h : AllForms d p x claim) (hImp : ∀ i o, claim i o → claim' i o) : AllForms d p x claim' := by
  obtain ⟨hDirect, hPointer, hIndexed⟩ := h
  exact ⟨fun m => hImp _ _ (hDirect m), hImp _ _ hPointer, fun m => hImp _ _ (hIndexed m)⟩

section ReadModifyWrite

variable {i : Instr} {o : Operand}

/-- An instruction whose meaning is `modify` writes back the first part of its answer `g` and ends with `e`. -/
theorem modifies_of_exec_eq_modify {g : State → Byte → Byte × Bool} {e : State → Byte → Byte × Bool → State → State}
    (h : ∀ s, exec i s = modify s o (g s) (e s)) :
    Modifies i o (fun s v => (g s v).1) fun s v t => e s v (g s v) t :=
  fun s hRead hWrite => (h s).trans (modify_next.2 ⟨hRead, hWrite, rfl⟩)

/-- A shift writes its byte and CF (R160, R161, R165, R166). -/
theorem modifies_of_exec_eq_shiftMem {g : State → Byte → Byte × Bool} {f : State → Byte → Byte} {carry : Byte → Bool}
    (hShift : ∀ s v, g s v = (f s v, carry v)) (h : ∀ s, exec i s = shiftMem s o (g s)) :
    Modifies i o f fun _ v t => { t with cf := carry v } := by
  obtain rfl : g = fun s v => (f s v, carry v) := funext₂ hShift
  exact modifies_of_exec_eq_modify h

/-- A logical operation writes its byte, made with the register operand of the form, and ZF (R162 to R164). -/
theorem modifies_of_exec_eq_logicMem {f : Byte → Byte → Byte} (h : ∀ s, exec i s = logicMem s o f) :
    Modifies i o (fun s v => f v (s.regOperand o)) fun s v t => { t with zf := decide (f v (s.regOperand o) = 0#8) } :=
  modifies_of_exec_eq_modify h

end ReadModifyWrite

/-! ### The shifts in numbers -/

/-- SHLC doubles and adds the bit that enters; CF is the bit above (R165). -/
theorem shlc8_eq (v : Byte) (c : Bool) :
    shlc8 v c = (BitVec.ofNat 8 (2 * v.toNat + c.toNat), decide (128 ≤ v.toNat)) := by
  refine Prod.ext (BitVec.eq_of_toNat_eq ?_) ?_
  · have hEnter := c.toNat_lt
    simp only [shlc8, toNat_append_eq_add, BitVec.extractLsb'_toNat, BitVec.toNat_ofBool, BitVec.toNat_ofNat,
      Nat.shiftRight_zero]
    omega
  · exact v.msb_eq_getLsbD_last.symm.trans v.msb_eq_decide

/-- SHRC halves and adds the bit that enters as 128; CF is the remainder (R166). -/
theorem shrc8_eq (v : Byte) (c : Bool) :
    shrc8 v c = (BitVec.ofNat 8 (v.toNat / 2 + 128 * c.toNat), decide (v.toNat % 2 = 1)) := by
  refine Prod.ext (BitVec.eq_of_toNat_eq ?_) (Nat.testBit_zero v.toNat)
  have hByte := v.isLt
  have hEnter := c.toNat_lt
  simp only [shrc8, toNat_append_eq_add, BitVec.extractLsb'_toNat, BitVec.toNat_ofBool, BitVec.toNat_ofNat,
    Nat.shiftRight_eq_div_pow]
  omega

/-- SHL is SHLC with a zero entering (R160). -/
theorem shl8_eq (v : Byte) : shl8 v = (BitVec.ofNat 8 (2 * v.toNat), decide (128 ≤ v.toNat)) := shlc8_eq v false

/-- SHR is SHRC with a zero entering (R161). -/
theorem shr8_eq (v : Byte) : shr8 v = (BitVec.ofNat 8 (v.toNat / 2), decide (v.toNat % 2 = 1)) := shrc8_eq v false

/-! ### The meaning of each opcode, in its three forms -/

theorem exec_shl : AllForms .shlD .shlP .shlX fun i o => ∀ s, exec i s = shiftMem s o shl8 :=
  ⟨fun _ _ => rfl, fun _ => rfl, fun _ _ => rfl⟩

theorem exec_shr : AllForms .shrD .shrP .shrX fun i o => ∀ s, exec i s = shiftMem s o shr8 :=
  ⟨fun _ _ => rfl, fun _ => rfl, fun _ _ => rfl⟩

theorem exec_shlc : AllForms .shlcD .shlcP .shlcX fun i o => ∀ s, exec i s = shiftMem s o (shlc8 · s.cf) :=
  ⟨fun _ _ => rfl, fun _ => rfl, fun _ _ => rfl⟩

theorem exec_shrc : AllForms .shrcD .shrcP .shrcX fun i o => ∀ s, exec i s = shiftMem s o (shrc8 · s.cf) :=
  ⟨fun _ _ => rfl, fun _ => rfl, fun _ _ => rfl⟩

theorem exec_andMem : AllForms .andMemD .andMemP .andMemX fun i o => ∀ s, exec i s = logicMem s o (· &&& ·) :=
  ⟨fun _ _ => rfl, fun _ => rfl, fun _ _ => rfl⟩

theorem exec_xorMem : AllForms .xorMemD .xorMemP .xorMemX fun i o => ∀ s, exec i s = logicMem s o (· ^^^ ·) :=
  ⟨fun _ _ => rfl, fun _ => rfl, fun _ _ => rfl⟩

theorem exec_orMem : AllForms .orMemD .orMemP .orMemX fun i o => ∀ s, exec i s = logicMem s o (· ||| ·) :=
  ⟨fun _ _ => rfl, fun _ => rfl, fun _ _ => rfl⟩

/-! ### The statements -/

/-- Settles O42: each opcode is one shift in its three forms, and the shifts are doubling and halving in numbers. -/
theorem memoryShifts : Obligations.MemoryShifts :=
  ⟨exec_shl.imp fun _ _ => modifies_of_exec_eq_shiftMem fun _ => shl8_eq,
    exec_shr.imp fun _ _ => modifies_of_exec_eq_shiftMem fun _ => shr8_eq,
    exec_shlc.imp fun _ _ => modifies_of_exec_eq_shiftMem fun s v => shlc8_eq v s.cf,
    exec_shrc.imp fun _ _ => modifies_of_exec_eq_shiftMem fun s v => shrc8_eq v s.cf⟩

/-- Settles O43: each opcode is one operation with the register operand of its form, which is C for `[A:B]` and A for
the two others. -/
theorem memoryLogic : Obligations.MemoryLogic :=
  ⟨exec_andMem.imp fun _ _ => modifies_of_exec_eq_logicMem,
    exec_xorMem.imp fun _ _ => modifies_of_exec_eq_logicMem,
    exec_orMem.imp fun _ _ => modifies_of_exec_eq_logicMem⟩

end Sys2Proof.Machine
end

section
/-! PROOFS. The branch family: targets in exact arithmetic (R181, R187, R190), the link value (R188), and the jumps,
calls and relative branches that go to them (R180 to R207). -/

namespace Sys2Proof

/-! ### Addresses computed exactly -/

/-- Reduced modulo a power of two no smaller than its own range, a number gives the same word. -/
theorem ofInt_emod_two_pow {w k : Nat} (h : w ≤ k) (x : Int) : BitVec.ofInt w (x % 2 ^ k) = BitVec.ofInt w x := by
  refine BitVec.eq_of_toNat_eq ?_
  rw [BitVec.toNat_ofInt, BitVec.toNat_ofInt]
  push_cast
  rw [Int.emod_emod_of_dvd x (pow_dvd_pow 2 h)]

/-- A counter of `W` bits takes the low `W` bits of an address computed exactly (R29), also where the 17 bits it is held
in have cut the address first. -/
theorem Config.wrap_ofInt (c : Config) (x : Int) :
    c.wrap (BitVec.ofInt 17 x) = BitVec.ofInt 17 (x % 2 ^ c.width) := by
  have hValue : ((BitVec.ofInt 17 x).toNat : Int) = x % 2 ^ 17 := by
    rw [BitVec.toNat_ofInt]
    exact Int.toNat_of_nonneg (Int.emod_nonneg x (by decide))
  have hWrap : c.wrap (BitVec.ofInt 17 x) = BitVec.ofInt 17 (x % 2 ^ 17 % 2 ^ c.width) := by
    rw [← hValue, Config.wrap, ← BitVec.ofInt_natCast]
    push_cast
    rfl
  rw [hWrap]
  rcases Nat.le_total c.width 17 with hW | hW
  · rw [Int.emod_emod_of_dvd x (pow_dvd_pow 2 hW)]
  · rw [ofInt_emod_two_pow hW, ofInt_emod_two_pow hW, ofInt_emod_two_pow le_rfl]

end Sys2Proof

namespace Sys2Proof.Machine

/-- Writing the active counter is a branch to the address computed exactly (R29, R180). -/
theorem State.setCnt_ofInt (s : State) (x : Int) : s.setCnt (BitVec.ofInt 17 x) = s.branchTo x := by
  simp only [State.setCnt, State.branchTo, State.setIc, State.setMc, State.setPc, Config.wrap_ofInt]

/-- A word address doubled (R21, R181). -/
theorem wordTarget_eq (v : Addr) : wordTarget v = BitVec.ofInt 17 (2 * v.toNat) := by
  have hv := v.isLt
  refine BitVec.eq_of_toNat_eq ?_
  rw [wordTarget, BitVec.toNat_shiftLeft, BitVec.toNat_setWidth, BitVec.toNat_ofInt, Nat.shiftLeft_eq]
  omega

/-- The target of `JMP m` and `BAL m` (R181, R191). -/
theorem wordTarget_setWidth (m : BitVec 7) : wordTarget (m.setWidth 16) = BitVec.ofInt 17 (2 * m.toNat) := by
  rw [wordTarget_eq, BitVec.toNat_setWidth_of_le (by decide)]

theorem State.targetAB_eq (s : State) : s.targetAB = BitVec.ofInt 17 (2 * s.abNat) := by
  rw [State.targetAB, wordTarget_eq, toNat_pair, State.abNat]

theorem State.targetMB_eq (s : State) (m : BitVec 7) :
    s.targetMB m = BitVec.ofInt 17 (2 * (m.toNat * 256 + s.b.toNat)) := by
  rw [State.targetMB, wordTarget_eq, BitVec.toNat_setWidth_of_le (by decide), toNat_append_eq_add]
  push_cast
  rfl

/-- The offset counts words, forward or back, from the next instruction (R190). -/
theorem State.relTarget_eq (s : State) (off : Byte) :
    s.relTarget off = BitVec.ofInt 17 (s.cnt.toNat + 2 * off.toInt) := by
  rw [State.relTarget, BitVec.ofInt_add, BitVec.ofInt_mul, BitVec.ofInt_natCast, BitVec.ofNat_toNat, BitVec.setWidth_eq,
    BitVec.shiftLeft_eq_mul_twoPow, mul_comm]
  rfl

/-- The link value in A and B, in numbers (R188). -/
theorem State.setAB_link (s : State) : s.setAB s.link = s.linked := by
  have hA : highByte s.link = BitVec.ofNat 8 (s.cnt.toNat / 512) := by
    refine BitVec.eq_of_toNat_eq ?_
    simp only [highByte, State.link, BitVec.extractLsb'_toNat, BitVec.toNat_setWidth, BitVec.toNat_ushiftRight,
      BitVec.toNat_ofNat, Nat.shiftRight_eq_div_pow]
    omega
  have hB : lowByte s.link = BitVec.ofNat 8 (s.cnt.toNat / 2) := by
    refine BitVec.eq_of_toNat_eq ?_
    simp only [lowByte, State.link, BitVec.extractLsb'_toNat, BitVec.toNat_setWidth, BitVec.toNat_ushiftRight,
      BitVec.toNat_ofNat, Nat.shiftRight_eq_div_pow]
    omega
  rw [State.setAB, hA, hB, State.linked]

/-! ### The two shapes of branch -/

section Shapes

variable {taken : State → Bool}

/-- An instruction whose meaning is `jumpIf` goes to its target computed exactly. -/
theorem branches_of_exec_eq_jumpIf {i : Instr} {t : State → Counter} {target : State → Int}
    (hTarget : ∀ s, t s = BitVec.ofInt 17 (target s)) (h : ∀ s, exec i s = jumpIf s (taken s) (t s)) :
    Branches i taken target := by
  intro s
  rw [h, jumpIf, hTarget, State.setCnt_ofInt, finish]

/-- An instruction whose meaning is `linkIf` goes to its target computed exactly, which the link does not move. -/
theorem links_of_exec_eq_linkIf {i : Instr} {t : State → Counter} {target : State → Int}
    (hTarget : ∀ s, t s = BitVec.ofInt 17 (target s)) (h : ∀ s, exec i s = linkIf s (taken s) (t s)) :
    Links i taken target := by
  intro s
  rw [h, linkIf, hTarget, State.setAB_link, State.setCnt_ofInt, finish]

variable {fwd back : Byte → Instr} {inB : Instr}

/-- A relative jump: one target in its three encodings, the offset the operand byte or B (R190). -/
theorem relativeJump_of_exec_eq_jumpIf (hFwd : ∀ n s, exec (fwd n) s = jumpIf s (taken s) (s.relTarget n))
    (hB : ∀ s, exec inB s = jumpIf s (taken s) (s.relTarget s.b))
    (hBack : ∀ n s, exec (back n) s = jumpIf s (taken s) (s.relTarget n)) : RelativeJump fwd inB back taken :=
  ⟨fun n => branches_of_exec_eq_jumpIf (fun s => s.relTarget_eq n) (hFwd n),
    branches_of_exec_eq_jumpIf (fun s => s.relTarget_eq s.b) hB,
    fun n => branches_of_exec_eq_jumpIf (fun s => s.relTarget_eq n) (hBack n)⟩

/-- A relative call: as the jump, B read before the link replaces it (R188, R190). -/
theorem relativeCall_of_exec_eq_linkIf (hFwd : ∀ n s, exec (fwd n) s = linkIf s (taken s) (s.relTarget n))
    (hB : ∀ s, exec inB s = linkIf s (taken s) (s.relTarget s.b))
    (hBack : ∀ n s, exec (back n) s = linkIf s (taken s) (s.relTarget n)) : RelativeCall fwd inB back taken :=
  ⟨fun n => links_of_exec_eq_linkIf (fun s => s.relTarget_eq n) (hFwd n),
    links_of_exec_eq_linkIf (fun s => s.relTarget_eq s.b) hB,
    fun n => links_of_exec_eq_linkIf (fun s => s.relTarget_eq n) (hBack n)⟩

end Shapes

/-! ### The statements -/

/-- Settles O44: each jump is `jumpIf` with its condition, and its target in numbers is 2m, 2(A:B) or 2(m:B). -/
theorem jumps : Obligations.Jumps := by
  refine ⟨fun m => branches_of_exec_eq_jumpIf (fun _ => wordTarget_setWidth m) fun _ => rfl, ?c0, ?c1, ?z0, ?z1, ?ab,
    fun m => branches_of_exec_eq_jumpIf (fun s => s.targetMB_eq m) fun _ => rfl⟩
  case c0 | c1 | z0 | z1 | ab => exact branches_of_exec_eq_jumpIf State.targetAB_eq fun _ => rfl

/-- Settles O45: each call is `linkIf` with the condition and the target of its jump, and the link in numbers is the
word address of the next instruction. -/
theorem branchAndLink : Obligations.BranchAndLink := by
  refine ⟨fun m => links_of_exec_eq_linkIf (fun _ => wordTarget_setWidth m) fun _ => rfl, ?c0, ?c1, ?z0, ?z1, ?ab,
    fun m => links_of_exec_eq_linkIf (fun s => s.targetMB_eq m) fun _ => rfl⟩
  case c0 | c1 | z0 | z1 | ab => exact links_of_exec_eq_linkIf State.targetAB_eq fun _ => rfl

/-- Settles O46: in each of the ten opcodes the three encodings have one meaning, `jumpIf` or `linkIf` to the relative
target. -/
theorem relativeJumpsAndCalls : Obligations.RelativeJumpsAndCalls := by
  refine ⟨?jr, ?jrc0, ?jrc1, ?jrz0, ?jrz1, ?br, ?brc0, ?brc1, ?brz0, ?brz1⟩
  case jr | jrc0 | jrc1 | jrz0 | jrz1 =>
    exact relativeJump_of_exec_eq_jumpIf (fun _ _ => rfl) (fun _ => rfl) fun _ _ => rfl
  case br | brc0 | brc1 | brz0 | brz1 =>
    exact relativeCall_of_exec_eq_linkIf (fun _ _ => rfl) (fun _ => rfl) fun _ _ => rfl

end Sys2Proof.Machine
end

section
/-! PROOFS. The arithmetic family (R220 to R237): sums and differences in numbers, the instructions of OP 20 to 27 and 30
to 37, and the two that step a 16-bit pointer. -/

namespace Sys2Proof.Machine

/-! ### Sums and differences in numbers -/

/-- The answer `r` of an operation carries `byte`, and CF and ZF taken from it are those `flags` sets (R220). -/
structure Gives (r : Byte × Bool) (byte : Byte) (flags : State → State) : Prop where
  byte_eq : r.1 = byte
  setCZ_eq : ∀ t : State, t.setCZ r = flags t

/-- A byte made of an exact number is 00h where the number is 0 modulo 256 (R32). -/
theorem ofInt_eq_zero_iff (x : Int) : BitVec.ofInt 8 x = 0#8 ↔ x % 256 = 0 := by
  rw [← BitVec.toNat_inj, BitVec.toNat_ofInt, BitVec.toNat_ofNat]
  omega

theorem add8_gives (x y : Byte) (c : Nat) :
    Gives (add8 x y c) (BitVec.ofNat 8 (x.toNat + y.toNat + c)) (·.sumFlags (x.toNat + y.toNat + c)) where
  byte_eq := rfl
  setCZ_eq t := by
    have hCarry : (add8 x y c).2 = decide (255 < x.toNat + y.toNat + c) := rfl
    have hZero : (add8 x y c).1 = 0#8 ↔ (x.toNat + y.toNat + c) % 256 = 0 := by
      rw [add8, ← BitVec.toNat_inj, BitVec.toNat_ofNat]
      rfl
    simp only [State.setCZ, State.sumFlags, hCarry, hZero]

/-- The difference in 8 bits is the exact one modulo 256. -/
theorem sub8_fst (x y : Byte) (c : Nat) : (sub8 x y c).1 = BitVec.ofInt 8 (x.toNat - y.toNat - c) := by
  simp only [sub8, sub_eq_add_neg, BitVec.ofInt_add, BitVec.ofInt_neg, BitVec.ofInt_natCast, BitVec.ofNat_toNat,
    BitVec.setWidth_eq]

theorem sub8_gives (x y : Byte) (c : Nat) :
    Gives (sub8 x y c) (BitVec.ofInt 8 (x.toNat - y.toNat - c)) (·.diffFlags (x.toNat - y.toNat - c)) where
  byte_eq := sub8_fst x y c
  setCZ_eq t := by
    have hBorrow : (sub8 x y c).2 = decide ((x.toNat - y.toNat - c : Int) < 0) :=
      decide_eq_decide.2 (by omega)
    simp only [State.setCZ, State.diffFlags, hBorrow, sub8_fst, ofInt_eq_zero_iff]

/-- INC adds 1 (R221). -/
theorem add8_one_gives (v : Byte) :
    Gives (add8 v 1#8 0) (BitVec.ofNat 8 (v.toNat + 1)) (·.sumFlags (v.toNat + 1)) :=
  add8_gives v 1#8 0

/-- INCC adds CF (R222). -/
theorem add8_zero_gives (v : Byte) (c : Nat) :
    Gives (add8 v 0#8 c) (BitVec.ofNat 8 (v.toNat + c)) (·.sumFlags (v.toNat + c)) :=
  add8_gives v 0#8 c

/-- DEC subtracts 1 (R229). -/
theorem sub8_one_gives (v : Byte) :
    Gives (sub8 v 1#8 0) (BitVec.ofInt 8 (v.toNat - 1)) (·.diffFlags (v.toNat - 1)) := by
  simpa using sub8_gives v 1#8 0

/-- DECC subtracts CF (R230). -/
theorem sub8_zero_gives (v : Byte) (c : Nat) :
    Gives (sub8 v 0#8 c) (BitVec.ofInt 8 (v.toNat - c)) (·.diffFlags (v.toNat - c)) := by
  simpa using sub8_gives v 0#8 c

/-! ### The shapes of the arithmetic instructions -/

section Shapes

variable {g : State → Byte → Byte × Bool} {byte : State → Byte → Byte} {flags : State → Byte → State → State}

theorem byte_and_flags_of_gives (hg : ∀ s v, Gives (g s v) (byte s v) (flags s v)) :
    (fun s v => (g s v).1) = byte ∧ (fun s v t => t.setCZ (g s v)) = flags :=
  ⟨funext₂ fun s v => (hg s v).byte_eq, funext₂ fun s v => funext (hg s v).setCZ_eq⟩

/-- Arithmetic with memory destination writes its byte, CF and ZF (R220). -/
theorem modifies_of_exec_eq_arithMem (hg : ∀ s v, Gives (g s v) (byte s v) (flags s v)) {i : Instr} {o : Operand}
    (h : ∀ s, exec i s = arithMem s o (g s)) : Modifies i o byte flags := by
  obtain ⟨rfl, rfl⟩ := byte_and_flags_of_gives hg
  exact modifies_of_exec_eq_modify h

/-- An exchanging step does that too, and moves the byte before to A and the old A to B (R223, R231). -/
theorem modifies_of_exec_eq_arithMemX (hg : ∀ s v, Gives (g s v) (byte s v) (flags s v)) {i : Instr} {o : Operand}
    (h : ∀ s, exec i s = arithMemX s o (g s)) :
    Modifies i o byte fun s v t => { flags s v t with a := v, b := s.a } := by
  obtain ⟨rfl, rfl⟩ := byte_and_flags_of_gives hg
  exact modifies_of_exec_eq_modify h

/-- Arithmetic with destination A in its three encodings: the operand is `[m]`, register C or `[m:B]` (R227, R235). -/
theorem accumulates_of_exec_eq_arithA (hg : ∀ s v, Gives (g s v) (byte s v) (flags s v)) {d x : BitVec 7 → Instr}
    {p : Instr} (hDirect : ∀ m s, exec (d m) s = arithA s (.direct m) (g s)) (hC : ∀ s, exec p s = arithAC s (g s))
    (hIndexed : ∀ m s, exec (x m) s = arithA s (.indexed m) (g s)) :
    (∀ m, Reads (d m) (.direct m) fun s v t => { flags s v t with a := byte s v }) ∧
      (Completes p fun s => { flags s s.c s with a := byte s s.c }) ∧
        ∀ m, Reads (x m) (.indexed m) fun s v t => { flags s v t with a := byte s v } := by
  obtain ⟨rfl, rfl⟩ := byte_and_flags_of_gives hg
  exact ⟨fun m s hRead => (hDirect m s).trans (load_next.2 ⟨hRead, rfl⟩), hC,
    fun m s hRead => (hIndexed m s).trans (load_next.2 ⟨hRead, rfl⟩)⟩

variable {d x : BitVec 7 → Instr} {p : Instr} {c : State → Nat}

/-- A sum with the register operand of the form (R225, R226). -/
theorem modifies_sum_regOperand
    (h : AllForms d p x fun i o => ∀ s, exec i s = arithMem s o (add8 · (s.regOperand o) (c s))) :
    AllForms d p x fun i o => Modifies i o (fun s v => BitVec.ofNat 8 (v.toNat + (s.regOperand o).toNat + c s))
      fun s v t => t.sumFlags (v.toNat + (s.regOperand o).toNat + c s) :=
  h.imp fun _ o => modifies_of_exec_eq_arithMem fun s v => add8_gives v (s.regOperand o) (c s)

/-- A difference from the register operand of the form (R233, R234). -/
theorem modifies_difference_regOperand
    (h : AllForms d p x fun i o => ∀ s, exec i s = arithMem s o (sub8 · (s.regOperand o) (c s))) :
    AllForms d p x fun i o => Modifies i o (fun s v => BitVec.ofInt 8 (v.toNat - (s.regOperand o).toNat - c s))
      fun s v t => t.diffFlags (v.toNat - (s.regOperand o).toNat - c s) :=
  h.imp fun _ o => modifies_of_exec_eq_arithMem fun s v => sub8_gives v (s.regOperand o) (c s)

end Shapes

/-! ### The meaning of each opcode, in its three forms -/

theorem exec_inc : AllForms .incD .incP .incX fun i o => ∀ s, exec i s = arithMem s o (add8 · 1#8 0) :=
  ⟨fun _ _ => rfl, fun _ => rfl, fun _ _ => rfl⟩

theorem exec_incc : AllForms .inccD .inccP .inccX fun i o => ∀ s, exec i s = arithMem s o (add8 · 0#8 s.carry) :=
  ⟨fun _ _ => rfl, fun _ => rfl, fun _ _ => rfl⟩

theorem exec_incx : AllForms .incxD .incxP .incxX fun i o => ∀ s, exec i s = arithMemX s o (add8 · 1#8 0) :=
  ⟨fun _ _ => rfl, fun _ => rfl, fun _ _ => rfl⟩

theorem exec_incxc : AllForms .incxcD .incxcP .incxcX fun i o => ∀ s, exec i s = arithMemX s o (add8 · 0#8 s.carry) :=
  ⟨fun _ _ => rfl, fun _ => rfl, fun _ _ => rfl⟩

theorem exec_dec : AllForms .decD .decP .decX fun i o => ∀ s, exec i s = arithMem s o (sub8 · 1#8 0) :=
  ⟨fun _ _ => rfl, fun _ => rfl, fun _ _ => rfl⟩

theorem exec_decc : AllForms .deccD .deccP .deccX fun i o => ∀ s, exec i s = arithMem s o (sub8 · 0#8 s.carry) :=
  ⟨fun _ _ => rfl, fun _ => rfl, fun _ _ => rfl⟩

theorem exec_decx : AllForms .decxD .decxP .decxX fun i o => ∀ s, exec i s = arithMemX s o (sub8 · 1#8 0) :=
  ⟨fun _ _ => rfl, fun _ => rfl, fun _ _ => rfl⟩

theorem exec_decxc : AllForms .decxcD .decxcP .decxcX fun i o => ∀ s, exec i s = arithMemX s o (sub8 · 0#8 s.carry) :=
  ⟨fun _ _ => rfl, fun _ => rfl, fun _ _ => rfl⟩

theorem exec_addMem :
    AllForms .addMemD .addMemP .addMemX fun i o => ∀ s, exec i s = arithMem s o (add8 · (s.regOperand o) 0) :=
  ⟨fun _ _ => rfl, fun _ => rfl, fun _ _ => rfl⟩

theorem exec_addcMem :
    AllForms .addcMemD .addcMemP .addcMemX fun i o => ∀ s, exec i s = arithMem s o (add8 · (s.regOperand o) s.carry) :=
  ⟨fun _ _ => rfl, fun _ => rfl, fun _ _ => rfl⟩

theorem exec_subMem :
    AllForms .subMemD .subMemP .subMemX fun i o => ∀ s, exec i s = arithMem s o (sub8 · (s.regOperand o) 0) :=
  ⟨fun _ _ => rfl, fun _ => rfl, fun _ _ => rfl⟩

theorem exec_subcMem :
    AllForms .subcMemD .subcMemP .subcMemX fun i o => ∀ s, exec i s = arithMem s o (sub8 · (s.regOperand o) s.carry) :=
  ⟨fun _ _ => rfl, fun _ => rfl, fun _ _ => rfl⟩

/-! ### Two exchanging steps on direct operands -/

/-- What an exchanging step on `[m]` leaves where its write is carried out: one byte of memory, CF, ZF, A and B. -/
def State.exchanged (s : State) (m : BitVec 7) (f : Byte → Byte × Bool) : State :=
  let p := s.phys (s.ea (.direct m))
  let v := s.mem.read p
  { s.setCZ (f v) with a := v, b := s.a, mem := s.mem.set p (f v).1, pa := false }

theorem State.restricted_direct (s : State) (m : BitVec 7) : s.restricted (.direct m) = false := by
  simp [State.restricted, Operand.pointerForm]

section Direct

variable {s : State} (hPA : s.pa = false) (m n : BitVec 7) (f : Byte → Byte × Bool)
include hPA

theorem arithMemX_direct (hRead : s.readable (.direct m)) (hWrite : s.writable (.direct m)) :
    arithMemX s (.direct m) f = .next (s.exchanged m f) := by
  refine modify_next.2 ⟨hRead, hWrite, ?_⟩
  simp [State.exchanged, State.byteAt, State.afterRead, State.afterWrite, State.restricted_direct, hPA, State.setCZ]

theorem State.exchanged_phys (x : Addr) : (s.exchanged m f).phys x = s.phys x := by
  simp [State.phys, State.exchanged, hPA]

theorem State.exchanged_readable : (s.exchanged m f).readable (.direct n) ↔ s.readable (.direct n) := by
  simp only [State.readable, State.restricted_direct, State.exchanged_phys hPA]
  rfl

theorem State.exchanged_writable : (s.exchanged m f).writable (.direct n) ↔ s.writable (.direct n) := by
  simp only [State.writable, State.restricted_direct, State.exchanged_phys hPA, hPA]
  rfl

end Direct

/-- Two direct operands are two bytes of memory. -/
theorem State.phys_direct_ne (s : State) {m n : BitVec 7} (h : m ≠ n) :
    s.phys (s.ea (.direct m)) ≠ s.phys (s.ea (.direct n)) := by
  have hVal : m.toNat ≠ n.toNat := fun hEq => h (BitVec.eq_of_toNat_eq hEq)
  have hm := m.isLt
  have hn := n.isLt
  have hOF := s.effOF.isLt
  simp only [State.phys, State.ea, BitVec.toNat_setWidth, toNat_append_eq_add]
  split <;> omega

/-- Two exchanging steps, the second with the carry of the first: each byte takes its own step, and A:B holds the two
bytes before (R223, R224). -/
theorem exec_exchanging_pair {first second : BitVec 7 → Instr} {f : Byte → Byte × Bool} {g : Nat → Byte → Byte × Bool}
    (hFirst : ∀ m s, exec (first m) s = arithMemX s (.direct m) f)
    (hSecond : ∀ m s, exec (second m) s = arithMemX s (.direct m) (g s.carry))
    {s : State} {lo hi : BitVec 7} (hMem : s.mem.wf) (hNe : lo ≠ hi) (hPA : s.pa = false)
    (hReadLo : s.readable (.direct lo)) (hReadHi : s.readable (.direct hi)) (hWriteLo : s.writable (.direct lo))
    (hWriteHi : s.writable (.direct hi)) :
    let pLo := s.phys (s.ea (.direct lo))
    let pHi := s.phys (s.ea (.direct hi))
    ∃ t u, exec (first lo) s = .next t ∧ exec (second hi) t = .next u ∧
      u.a = s.mem.read pHi ∧ u.b = s.mem.read pLo ∧
      u.mem.read pLo = (f (s.mem.read pLo)).1 ∧
      u.mem.read pHi = (g (f (s.mem.read pLo)).2.toNat (s.mem.read pHi)).1 := by
  intro pLo pHi
  let t := s.exchanged lo f
  have hPhys : t.phys (t.ea (.direct hi)) = pHi := State.exchanged_phys hPA lo f _
  have hMemT : t.mem = s.mem.set pLo (f (s.mem.read pLo)).1 := rfl
  have hOld : t.mem.read pHi = s.mem.read pHi := by
    rw [hMemT, Memory.read_set_other hMem _ (s.phys_direct_ne hNe.symm)]
  have hKeepLo (v : Byte) : (t.mem.set pHi v).read pLo = (f (s.mem.read pLo)).1 := by
    rw [Memory.read_set_other (hMemT ▸ Memory.set_wf hMem _ _) v (s.phys_direct_ne hNe), hMemT, Memory.read_set_same]
  refine ⟨t, t.exchanged hi (g t.carry), (hFirst lo s).trans (arithMemX_direct hPA lo f hReadLo hWriteLo),
    (hSecond hi t).trans (arithMemX_direct rfl hi _ ((State.exchanged_readable hPA lo hi f).2 hReadHi)
      ((State.exchanged_writable hPA lo hi f).2 hWriteHi)), ?_, rfl, ?_, ?_⟩
  · simp only [State.exchanged, hPhys, hOld]
  · simp only [State.exchanged, hPhys, hKeepLo]
  · simp only [State.exchanged, hPhys, hOld, Memory.read_set_same]
    rfl

/-- The carry of the low byte makes one 16-bit increment of the two. -/
theorem add8_pair (h l : Byte) :
    (add8 h 0#8 (add8 l 1#8 0).2.toNat).1.toNat * 256 + (add8 l 1#8 0).1.toNat =
      (h.toNat * 256 + l.toNat + 1) % 65536 := by
  have hh := h.isLt
  have hl := l.isLt
  cases hCarry : (add8 l 1#8 0).2 with
  | false =>
    have hBelow : ¬256 ≤ l.toNat + 1 := of_decide_eq_false hCarry
    simp only [add8, BitVec.toNat_ofNat, Bool.toNat_false]
    omega
  | true =>
    have hTop : 256 ≤ l.toNat + 1 := of_decide_eq_true hCarry
    simp only [add8, BitVec.toNat_ofNat, Bool.toNat_true]
    omega

/-- The borrow of the low byte makes one 16-bit decrement of the two. -/
theorem sub8_pair (h l : Byte) :
    (sub8 h 0#8 (sub8 l 1#8 0).2.toNat).1.toNat * 256 + (sub8 l 1#8 0).1.toNat =
      (h.toNat * 256 + l.toNat + 65535) % 65536 := by
  have hh := h.isLt
  have hl := l.isLt
  cases hBorrow : (sub8 l 1#8 0).2 with
  | false =>
    have hAbove : ¬l.toNat < 1 := of_decide_eq_false hBorrow
    simp only [sub8, BitVec.toNat_sub, BitVec.toNat_ofNat, Bool.toNat_false]
    omega
  | true =>
    have hZero : l.toNat < 1 := of_decide_eq_true hBorrow
    simp only [sub8, BitVec.toNat_sub, BitVec.toNat_ofNat, Bool.toNat_true]
    omega

/-! ### The statements -/

/-- Settles O47: each opcode is one sum or difference with 1 or CF, written back. -/
theorem incrementsAndDecrements : Obligations.IncrementsAndDecrements :=
  ⟨exec_inc.imp fun _ _ => modifies_of_exec_eq_arithMem fun _ => add8_one_gives,
    exec_incc.imp fun _ _ => modifies_of_exec_eq_arithMem fun s v => add8_zero_gives v s.carry,
    exec_dec.imp fun _ _ => modifies_of_exec_eq_arithMem fun _ => sub8_one_gives,
    exec_decc.imp fun _ _ => modifies_of_exec_eq_arithMem fun s v => sub8_zero_gives v s.carry⟩

/-- Settles O48: the sums and differences of O47 with the exchange of A and B after the write. -/
theorem exchangingSteps : Obligations.ExchangingSteps :=
  ⟨exec_incx.imp fun _ _ => modifies_of_exec_eq_arithMemX fun _ => add8_one_gives,
    exec_incxc.imp fun _ _ => modifies_of_exec_eq_arithMemX fun s v => add8_zero_gives v s.carry,
    exec_decx.imp fun _ _ => modifies_of_exec_eq_arithMemX fun _ => sub8_one_gives,
    exec_decxc.imp fun _ _ => modifies_of_exec_eq_arithMemX fun s v => sub8_zero_gives v s.carry⟩

/-- Settles O49: the first instruction steps the low byte and moves the old one to A, the second steps the high byte by
the carry and moves the old low byte on to B. -/
theorem sixteenBitPointerSteps : Obligations.SixteenBitPointerSteps := by
  intro s lo hi hMem hNe hPA hReadLo hReadHi hWriteLo hWriteHi pLo pHi old
  constructor
  · obtain ⟨t, u, ht, hu, ha, hb, hLo, hHi⟩ := exec_exchanging_pair exec_incx.1
      (g := fun c => (add8 · 0#8 c)) exec_incxc.1 hMem hNe hPA hReadLo hReadHi hWriteLo hWriteHi
    refine ⟨t, u, ht, hu, by rw [State.abNat, ha, hb], ?_⟩
    rw [hLo, hHi, add8_pair]
  · obtain ⟨t, u, ht, hu, ha, hb, hLo, hHi⟩ := exec_exchanging_pair exec_decx.1
      (g := fun c => (sub8 · 0#8 c)) exec_decxc.1 hMem hNe hPA hReadLo hReadHi hWriteLo hWriteHi
    refine ⟨t, u, ht, hu, by rw [State.abNat, ha, hb], ?_⟩
    rw [hLo, hHi, sub8_pair]

/-- Settles O50: the register operand of the form is C for `[A:B]` and A for the two others. -/
theorem addSubtractMemory : Obligations.AddSubtractMemory :=
  ⟨modifies_sum_regOperand exec_addMem, modifies_sum_regOperand exec_addcMem,
    modifies_difference_regOperand exec_subMem, modifies_difference_regOperand exec_subcMem⟩

/-- Settles O51: in the differences the operand is the minuend and A is taken from it. -/
theorem addSubtractAccumulator : Obligations.AddSubtractAccumulator := by
  refine ⟨accumulates_of_exec_eq_arithA (fun s v => add8_gives s.a v 0) ?_ ?_ ?_,
    accumulates_of_exec_eq_arithA (fun s v => add8_gives s.a v s.carry) ?_ ?_ ?_,
    accumulates_of_exec_eq_arithA (fun s v => sub8_gives v s.a 0) ?_ ?_ ?_,
    accumulates_of_exec_eq_arithA (fun s v => sub8_gives v s.a s.carry) ?_ ?_ ?_⟩
  all_goals intros; rfl

end Sys2Proof.Machine
end

section
/-! PROOFS. The load and copy family (R260 to R267): what an instruction that reads one operand, or copies one byte to
another, does where its accesses are carried out. -/

namespace Sys2Proof.Machine

/-! ### Read, and copy -/

section Shapes

variable {i : Instr} {src dst : Operand}

/-- An instruction whose meaning is `load` ends with its `k` of the byte read (R260 to R262). -/
theorem reads_of_exec_eq_load {k : State → Byte → State → State} (h : ∀ s, exec i s = load s src (k s)) :
    Reads i src k :=
  fun s hRead => (h s).trans (load_next.2 ⟨hRead, rfl⟩)

/-- An instruction whose meaning is `copy` writes the byte read and ends with its `k` (R263 to R267). -/
theorem copies_of_exec_eq_copy {k : State → State → State} (h : ∀ s, exec i s = copy s src dst (k s)) :
    Copies i src dst k :=
  fun s hRead hWrite => (h s).trans (copy_next.2 ⟨hRead, hWrite, rfl⟩)

/-- A register stepped up in 8 bits holds the number plus 1 modulo 256 (R263). -/
theorem add_one_eq_ofNat (v : Byte) : v + 1#8 = BitVec.ofNat 8 (v.toNat + 1) := BitVec.add_def v 1#8

/-- A copy that steps B of the state before (R266). -/
theorem copies_stepping_b (h : ∀ s, exec i s = copy s src dst fun t => { t with b := s.b + 1#8 }) :
    Copies i src dst fun s t => { t with b := BitVec.ofNat 8 (s.b.toNat + 1) } := by
  simp only [add_one_eq_ofNat] at h
  exact copies_of_exec_eq_copy h

/-- A copy that steps B and C of the state before (R263, R267). -/
theorem copies_stepping_bc (h : ∀ s, exec i s = copy s src dst fun t => { t with b := s.b + 1#8, c := s.c + 1#8 }) :
    Copies i src dst fun s t =>
      { t with b := BitVec.ofNat 8 (s.b.toNat + 1), c := BitVec.ofNat 8 (s.c.toNat + 1) } := by
  simp only [add_one_eq_ofNat] at h
  exact copies_of_exec_eq_copy h

end Shapes

/-! ### The meaning of each opcode that has the three forms -/

theorem exec_ldA : AllForms .ldAD .ldAP .ldAX fun i o => ∀ s, exec i s = load s o fun v t => { t with a := v } :=
  ⟨fun _ _ => rfl, fun _ => rfl, fun _ _ => rfl⟩

theorem exec_ldB : AllForms .ldBD .ldBP .ldBX fun i o => ∀ s, exec i s = load s o fun v t => { t with b := v } :=
  ⟨fun _ _ => rfl, fun _ => rfl, fun _ _ => rfl⟩

theorem exec_ldC : AllForms .ldCD .ldCP .ldCX fun i o => ∀ s, exec i s = load s o fun v t => { t with c := v } :=
  ⟨fun _ _ => rfl, fun _ => rfl, fun _ _ => rfl⟩

theorem exec_stacp :
    AllForms .stacpD .stacpP .stacpX fun i o =>
      ∀ s, exec i s = copy s o .pageC fun t => { t with b := s.b + 1#8, c := s.c + 1#8 } :=
  ⟨fun _ _ => rfl, fun _ => rfl, fun _ _ => rfl⟩

/-! ### The statements -/

/-- Settles O52: each opcode is one read in its three forms, and the byte read goes to its register after the address was
made. -/
theorem loadsOfRegisters : Obligations.LoadsOfRegisters :=
  ⟨exec_ldA.imp fun _ _ => reads_of_exec_eq_load, exec_ldB.imp fun _ _ => reads_of_exec_eq_load,
    exec_ldC.imp fun _ _ => reads_of_exec_eq_load⟩

/-- Settles O53: every instruction is one copy; STAB and STAC end it with nothing more, STABP steps B, STACP and STZCP
step B and C. -/
theorem copiesInMemory : Obligations.CopiesInMemory := by
  refine ⟨?stacp, ?stabD, ?stabX, ?stac, ?stabpD, ?stabpX, ?stzcp⟩
  case stacp => exact exec_stacp.imp fun _ _ => copies_stepping_bc
  case stabD | stabX => exact fun _ => copies_of_exec_eq_copy fun _ => rfl
  case stac => exact copies_of_exec_eq_copy fun _ => rfl
  case stabpD | stabpX => exact fun _ => copies_stepping_b fun _ => rfl
  case stzcp => exact copies_stepping_bc fun _ => rfl

end Sys2Proof.Machine
end

section
/-! PROOFS. The loop family (R280 to R288): where a repeating instruction goes, what it counts, and the unit of work the
compound loops do at `[A:B]`. -/

namespace Sys2Proof.Machine

/-! ### Where a loop goes -/

/-- A branch to an address that is the exact one once cut to `W` bits (R29, R180). -/
theorem State.setCnt_of_wrap_eq {s : State} {t : Counter} {x : Int}
    (h : s.cfg.wrap t = BitVec.ofInt 17 (x % 2 ^ s.cfg.width)) : s.setCnt t = s.branchTo x := by
  simp only [State.setCnt, State.branchTo, State.setIc, State.setMc, State.setPc, h]

/-- The relative target, cut to `W` bits (R190, R281). -/
theorem State.wrap_relTarget (s : State) (off : Byte) :
    s.cfg.wrap (s.relTarget off) = BitVec.ofInt 17 ((s.cnt.toNat + 2 * off.toInt) % 2 ^ s.cfg.width) := by
  rw [State.relTarget_eq, Config.wrap_ofInt]

/-- `this` is two below `next`, modulo `2 ^ W`. -/
theorem State.thisAddr_eq (s : State) : s.thisAddr = BitVec.ofInt 17 ((s.cnt.toNat - 2) % 2 ^ s.cfg.width) := by
  have hExact : s.cnt - 2#17 = BitVec.ofInt 17 (s.cnt.toNat - 2) := by
    rw [Int.sub_eq_add_neg, BitVec.ofInt_add, BitVec.ofInt_neg, BitVec.ofInt_natCast, BitVec.ofNat_toNat,
      BitVec.setWidth_eq, BitVec.sub_eq_add_neg]
    rfl
  rw [State.thisAddr, hExact, Config.wrap_ofInt]

/-- `this` is already cut to `W` bits (R282). -/
theorem State.wrap_thisAddr (s : State) :
    s.cfg.wrap s.thisAddr = BitVec.ofInt 17 ((s.cnt.toNat - 2) % 2 ^ s.cfg.width) := by
  rw [State.thisAddr_eq, Config.wrap_ofInt, Int.emod_emod]

/-! ### What a loop counts -/

/-- C counted down and B stepped in 8 bits (R280). -/
theorem State.counted_eq (s : State) (step : Int) :
    s.counted step = { s with c := s.c - 1#8, b := s.b + BitVec.ofInt 8 step } := by
  have hC : s.c - 1#8 = BitVec.ofNat 8 (s.c.toNat + 255) := by
    rw [BitVec.sub_def, add_comm]
    rfl
  have hB : s.b + BitVec.ofInt 8 step = BitVec.ofInt 8 (s.b.toNat + step) := by
    rw [BitVec.ofInt_add, BitVec.ofInt_natCast, BitVec.ofNat_toNat, BitVec.setWidth_eq]
  rw [State.counted, hC, hB]

/-! ### The plain loops -/

/-- A plain loop in numbers: with C = 0 on to the next instruction, else to its target (R280). -/
theorem loopTo_eq {s : State} {t : Counter} {x : Int} (h : s.cfg.wrap t = BitVec.ofInt 17 (x % 2 ^ s.cfg.width))
    (step : Int) :
    loopTo s t (BitVec.ofInt 8 step) =
      .next { (if s.c = 0#8 then s else (s.counted step).branchTo x) with pa := false } := by
  have hBranch : (s.counted step).setCnt t = (s.counted step).branchTo x := State.setCnt_of_wrap_eq h
  unfold loopTo
  split
  · rfl
  · rw [← State.counted_eq, hBranch, finish]

/-- An instruction whose meaning is `loopTo` counts down to its target computed exactly (R280). -/
theorem countsDown_of_exec_eq_loopTo {i : Instr} {t : State → Counter} {target : State → Int} {step : Int}
    (hTarget : ∀ s : State, s.cfg.wrap (t s) = BitVec.ofInt 17 (target s % 2 ^ s.cfg.width))
    (h : ∀ s, exec i s = loopTo s (t s) (BitVec.ofInt 8 step)) : CountsDown i target step :=
  fun s => (h s).trans (loopTo_eq (hTarget s) step)

/-- A loop through the offset in B, on a core that has it (R283, R288). -/
theorem loopB_of_present {s : State} (h : s.cfg.loopB = true) (step : Int) :
    loopB s (BitVec.ofInt 8 step) =
      .next { (if s.c = 0#8 then s
        else (s.counted step).branchTo (s.cnt.toNat + 2 * s.b.toInt)) with pa := false } := by
  rw [loopB, if_pos h, loopTo_eq (s.wrap_relTarget s.b)]

/-- On any other core it is refused (R283, R288). -/
theorem loopB_of_absent {s : State} (h : s.cfg.loopB = false) (step : Byte) :
    loopB s step = .refused .loopBAbsent := by
  simp [loopB, h]

/-! ### The compound loops -/

/-- With C = 0 a compound shift does nothing (R284, R286). -/
theorem loopShift_of_c_eq_zero {s : State} (h : s.c = 0#8) (f : Byte → Byte × Bool) (step : Byte) :
    loopShift s f step = .next { s with pa := false } := by
  rw [loopShift, if_pos h, finish]

/-- With C = 0 LOOPZERO does nothing (R287). -/
theorem execLoopzero_of_c_eq_zero {s : State} (h : s.c = 0#8) : execLoopzero s = .next { s with pa := false } := by
  rw [execLoopzero, if_pos h, finish]

/-- The end of one unit of work: the state `t` it made is counted, and the instruction repeats (R280). -/
theorem setCnt_thisAddr_of_work {s t : State} (hCfg : t.cfg = s.cfg) (hB : t.b = s.b) (hC : t.c = s.c) (step : Int) :
    State.setCnt { t with c := s.c - 1#8, b := s.b + BitVec.ofInt 8 step } s.thisAddr =
      (t.counted step).branchTo (s.cnt.toNat - 2) := by
  rw [State.counted_eq, hB, hC]
  exact State.setCnt_of_wrap_eq (hCfg ▸ s.wrap_thisAddr)

section OneUnit

variable {s : State} (hC : s.c ≠ 0#8)
include hC

/-- One unit of a compound shift: the shifted byte at `[A:B]` and CF, then counted and repeated (R284, R286). -/
theorem loopShift_of_c_ne_zero (hRead : s.readable .pointer) (hWrite : s.writable .pointer) {f : Byte → Byte × Bool}
    {byte : Byte} {carry : Bool} (hShift : f (s.byteAt .pointer) = (byte, carry)) (step : Int) :
    loopShift s f (BitVec.ofInt 8 step) =
      .next { State.branchTo { ((s.afterRead .pointer).afterWrite .pointer byte).counted step with cf := carry }
        (s.cnt.toNat - 2) with pa := false } := by
  have hRepeat := setCnt_thisAddr_of_work (s := s)
    (t := { (s.afterRead .pointer).afterWrite .pointer byte with cf := carry }) (by simp) (by simp) (by simp) step
  rw [loopShift, if_neg hC, modify_next.2 ⟨hRead, hWrite, rfl⟩, hShift]
  exact congrArg (fun u : State => Host.Outcome.next { u with pa := false }) hRepeat

/-- One unit of LOOPZERO: 00h at `[A:B]`, then counted and repeated (R287). -/
theorem execLoopzero_of_c_ne_zero (hWrite : s.writable .pointer) :
    execLoopzero s =
      .next { ((s.afterWrite .pointer 0#8).counted 1).branchTo (s.cnt.toNat - 2) with pa := false } := by
  have hRepeat := setCnt_thisAddr_of_work (s := s) (t := s.afterWrite .pointer 0#8) (by simp) (by simp) (by simp) 1
  rw [execLoopzero, if_neg hC, State.dwrite_of_writable _ hWrite, Res.andThen_ok, finish, ← hRepeat]
  rfl

end OneUnit

/-! ### The meaning of the instructions that are no plain loop -/

theorem exec_loopdecB (s : State) : exec .loopdecB s = loopB s (BitVec.ofInt 8 (-1)) := rfl

theorem exec_loopincB (s : State) : exec .loopincB s = loopB s (BitVec.ofInt 8 1) := rfl

theorem exec_loopshrc (s : State) : exec .loopshrc s = loopShift s (shrc8 · s.cf) (BitVec.ofInt 8 (-1)) := rfl

theorem exec_loopshlc (s : State) : exec .loopshlc s = loopShift s (shlc8 · s.cf) (BitVec.ofInt 8 1) := rfl

theorem exec_loopzero (s : State) : exec .loopzero s = execLoopzero s := rfl

/-! ### The statements -/

/-- Settles O54: each form is one plain loop; its target is the relative one, or for WAIT the instruction itself, and
the steps of B are minus 1 and plus 1. -/
theorem countedLoops : Obligations.CountedLoops := by
  refine ⟨?decFwd, ?decBack, ?wait, ?incFwd, ?incBack, ?present, ?absent⟩
  case decFwd | decBack | incFwd | incBack =>
    exact fun n => countsDown_of_exec_eq_loopTo (fun s => s.wrap_relTarget n) fun _ => rfl
  case wait => exact countsDown_of_exec_eq_loopTo State.wrap_thisAddr fun _ => rfl
  case present =>
    intro s h
    rw [exec_loopdecB, exec_loopincB]
    exact ⟨loopB_of_present h (-1), loopB_of_present h 1⟩
  case absent =>
    intro s h
    rw [exec_loopdecB, exec_loopincB]
    exact ⟨loopB_of_absent h _, loopB_of_absent h _⟩

/-- Settles O55: LOOPSHRC is the compound shift with SHRC and B stepped down, LOOPSHLC the one with SHLC and B stepped
up, the two shifts in numbers those of the memory shifts. -/
theorem compoundLoops : Obligations.CompoundLoops := by
  refine ⟨fun s h => ?done, fun s hC hWrite => ?work⟩
  all_goals rw [exec_loopshrc, exec_loopshlc, exec_loopzero]
  case done =>
    exact ⟨loopShift_of_c_eq_zero h _ _, loopShift_of_c_eq_zero h _ _, execLoopzero_of_c_eq_zero h⟩
  case work =>
    exact ⟨execLoopzero_of_c_ne_zero hC hWrite, fun hRead =>
      ⟨loopShift_of_c_ne_zero hC hRead hWrite (shrc8_eq _ s.cf) (-1),
        loopShift_of_c_ne_zero hC hRead hWrite (shlc8_eq _ s.cf) 1⟩⟩

end Sys2Proof.Machine
end

section
/-! PROOFS. The family of logic on A (R290 to R296): the operand choices of one operation, and what each leaves in A and
ZF. -/

namespace Sys2Proof.Machine

/-- What a logical operation of A with the byte `v` makes of `t`, the state after its operand was read: A and ZF, no
other flag (R36, R290). -/
def State.logicResult (f : Byte → Byte → Byte) (s : State) (v : Byte) (t : State) : State :=
  { t with a := f s.a v, zf := decide (f s.a v = 0#8) }

/-! ### The two shapes of operand -/

section Shapes

variable {i : Instr} {f : Byte → Byte → Byte}

/-- With a memory operand, one read and the result with the byte read (R290). -/
theorem reads_of_exec_eq_logicA {o : Operand} (h : ∀ s, exec i s = logicA s o f) : Reads i o (State.logicResult f) :=
  reads_of_exec_eq_load h

/-- With a register or an immediate, the result at once: no read, so no state in which it stops (R290). -/
theorem completes_of_exec_eq_logicAV {v : State → Byte} (h : ∀ s, exec i s = logicAV s (v s) f) :
    Completes i fun s => s.logicResult f (v s) s :=
  fun s => (h s).trans (finish_next.2 rfl)

end Shapes

/-! ### The operand choices of one operation -/

/-- Two opcodes are the operation `f` on A: the operand is `[m]`, register C or `[m:B]` in the first, the operand byte
in the second (R290). -/
structure LogicOpcodes (f : Byte → Byte → Byte) (direct : BitVec 7 → Instr) (reg : Instr) (indexed : BitVec 7 → Instr)
    (imm : Byte → Instr) : Prop where
  exec_direct : ∀ m s, exec (direct m) s = logicA s (.direct m) f
  exec_reg : ∀ s, exec reg s = logicAV s s.c f
  exec_indexed : ∀ m s, exec (indexed m) s = logicA s (.indexed m) f
  exec_imm : ∀ n s, exec (imm n) s = logicAV s n f

theorem exec_andA : LogicOpcodes (· &&& ·) .andAD .andAC .andAX .andAN where
  exec_direct _ _ := rfl
  exec_reg _ := rfl
  exec_indexed _ _ := rfl
  exec_imm _ _ := rfl

theorem exec_xorA : LogicOpcodes (· ^^^ ·) .xorAD .xorAC .xorAX .xorAN where
  exec_direct _ _ := rfl
  exec_reg _ := rfl
  exec_indexed _ _ := rfl
  exec_imm _ _ := rfl

theorem exec_orA : LogicOpcodes (· ||| ·) .orAD .orAC .orAX .orAN where
  exec_direct _ _ := rfl
  exec_reg _ := rfl
  exec_indexed _ _ := rfl
  exec_imm _ _ := rfl

/-- Each of the four choices leaves the result with its own operand. -/
theorem LogicOpcodes.results {f : Byte → Byte → Byte} {direct indexed : BitVec 7 → Instr} {reg : Instr}
    {imm : Byte → Instr} (h : LogicOpcodes f direct reg indexed imm) :
    (∀ m, Reads (direct m) (.direct m) (State.logicResult f)) ∧
      (Completes reg fun s => s.logicResult f s.c s) ∧
      (∀ m, Reads (indexed m) (.indexed m) (State.logicResult f)) ∧
      ∀ n, Completes (imm n) fun s => s.logicResult f n s :=
  ⟨fun m => reads_of_exec_eq_logicA (h.exec_direct m), completes_of_exec_eq_logicAV h.exec_reg,
    fun m => reads_of_exec_eq_logicA (h.exec_indexed m), fun n => completes_of_exec_eq_logicAV (h.exec_imm n)⟩

/-! ### The statement -/

/-- Settles O56: AND, XOR and OR are one operation each in the four operand choices, OR A,[m:B] no exception (C6). -/
theorem logicOnA : Obligations.LogicOnA :=
  ⟨exec_andA.results, exec_xorA.results, exec_orA.results⟩

end Sys2Proof.Machine
end

section
/-! PROOFS. The frame of every instruction: which of the registers, flags, counters, memory bytes and port events an
instruction may change (R22, R30 to R37, R41, R62, R64), and the invariant that every step keeps. -/

namespace Sys2Proof.Machine

/-! ### Even counter values of `W` bits -/

/-- The low `W` bits of an even value can stand at an instruction boundary (R28, R29). -/
theorem counterOk_wrap (c : Config) {v : Counter} (h : v.getLsbD 0 = false) : CounterOk c (c.wrap v) := by
  have hPow : 0 < 2 ^ c.width := Nat.two_pow_pos _
  have hLt : v.toNat % 2 ^ c.width < 2 ^ 17 := (Nat.mod_le _ _).trans_lt v.isLt
  have hNat : (c.wrap v).toNat = v.toNat % 2 ^ c.width := by
    rw [Config.wrap, BitVec.toNat_ofNat, Nat.mod_eq_of_lt hLt]
  refine ⟨?_, hNat ▸ Nat.mod_lt _ hPow⟩
  have hBit : v.toNat.testBit 0 = false := h
  rw [BitVec.getLsbD, hNat, Nat.testBit_mod_two_pow, hBit, Bool.and_false]

/-- The value `x` an instruction running in `s` branches to is even if the address of the next instruction is. -/
def State.AimsEven (s : State) (x : Counter) : Prop := s.cnt.getLsbD 0 = false → x.getLsbD 0 = false

/-- The value `v` that an instruction running in `s` leaves in a counter can stand at a boundary if the address of the
next instruction is even. -/
def State.Forms (s : State) (v : Counter) : Prop := s.cnt.getLsbD 0 = false → CounterOk s.cfg v

theorem State.AimsEven.forms {s : State} {x : Counter} (h : s.AimsEven x) : s.Forms (s.cfg.wrap x) :=
  fun hc => counterOk_wrap s.cfg (h hc)

theorem getLsbD_zero_shiftLeft_one (v : Counter) : (v <<< 1).getLsbD 0 = false := by
  simp

theorem getLsbD_zero_add {v w : Counter} (hv : v.getLsbD 0 = false) (hw : w.getLsbD 0 = false) :
    (v + w).getLsbD 0 = false := by
  rw [BitVec.getLsbD_add (by decide), hv, hw, BitVec.carry_zero]
  rfl

/-- Every word address is an even byte address (R181). -/
theorem State.aimsEven_wordTarget (s : State) (v : Addr) : s.AimsEven (wordTarget v) :=
  fun _ => getLsbD_zero_shiftLeft_one _

/-- A relative offset counts words (R190). -/
theorem State.aimsEven_relTarget (s : State) (off : Byte) : s.AimsEven (s.relTarget off) :=
  fun h => getLsbD_zero_add h (getLsbD_zero_shiftLeft_one _)

/-- An instruction that repeats goes two bytes back (R282). -/
theorem State.aimsEven_thisAddr (s : State) : s.AimsEven s.thisAddr := by
  intro h
  have hBack : (s.cnt - 2#17).getLsbD 0 = false := by
    rw [BitVec.sub_eq_add_neg]
    exact getLsbD_zero_add h (by decide)
  exact (counterOk_wrap s.cfg hBack).1

theorem vector_even (k : BitVec 4) : (vector k).getLsbD 0 = false := by
  revert k
  decide

/-! ### The frame -/

/-- A write through `o` is carried out in full: neither restricted nor suppressed, and inside the installed memory. -/
def State.Commits (s : State) (o : Operand) : Prop :=
  s.restricted o = false ∧ (s.pa && s.userMode) = false ∧ s.phys (s.ea o) < s.cfg.memBytes

/-- The memory `m` is that of `s`, or that with one byte written through the operand `op`. -/
def StoresAtMost (op : Option Operand) (s : State) (m : Memory) : Prop :=
  m ≠ s.mem → ∃ o v, op = some o ∧ s.Commits o ∧ m = s.mem.set (s.phys (s.ea o)) v

/-- The port events `l` are those of `s`, then some on port `port`. -/
def AddsEvents (port : Byte) (s : State) (l : List PortEvent) : Prop :=
  ∃ new, l = s.events ++ new ∧ ∀ e ∈ new, ∃ v, e = .input port v ∨ e = .output port v

theorem AddsEvents.refl (port : Byte) (s : State) : AddsEvents port s s.events :=
  ⟨[], (List.append_nil _).symm, nofun⟩

/-- What the ordinary instruction `i` may change from `s` to `t`: each part of the state only by its writers, counters
only to values they can hold, memory only through the store operand of `i`, ports only on port C. A part without a
clause of its own in a use of this structure is left alone. -/
structure WriteFrame (i : Instr) (s t : State) : Prop where
  a_changed : t.a ≠ s.a → i.writesA = true := by exact absurd rfl
  b_changed : t.b ≠ s.b → i.stepsOrWritesB = true := by exact absurd rfl
  c_changed : t.c ≠ s.c → i.writesC = true := by exact absurd rfl
  cf_changed : t.cf ≠ s.cf → i.writesCF = true := by exact absurd rfl
  zf_changed : t.zf ≠ s.zf → i.writesZF = true := by exact absurd rfl
  uf_changed : t.uf ≠ s.uf → i.writesUF = true ∧ s.cfg.hasUserMode = true := by exact absurd rfl
  ofs_changed : t.ofs ≠ s.ofs → i.writesOF = true := by exact absurd rfl
  mf_changed : t.mf ≠ s.mf → ∃ m, i = .reti m := by exact absurd rfl
  pc_changed : t.pc ≠ s.pc →
    (i = .setpc ∨ i.transfers = true ∧ s.inInt = false ∧ s.mf = false) ∧ s.Forms t.pc := by exact absurd rfl
  mc_changed : t.mc ≠ s.mc →
    (i = .setmc ∨ i.transfers = true ∧ s.inInt = false ∧ s.mf = true) ∧ s.Forms t.mc := by exact absurd rfl
  ic_changed : t.ic ≠ s.ic →
    ((∃ k, i = .int k) ∨ i.transfers = true ∧ s.inInt = true) ∧ s.Forms t.ic := by exact absurd rfl
  mem_changed : StoresAtMost (storesThrough i) s t.mem := by exact absurd rfl
  events_added : AddsEvents s.c s t.events := by exact AddsEvents.refl _ _
  ports_unused : i.usesPorts = false → t.events = s.events ∧ t.portScript = s.portScript := by
    exact fun _ => ⟨rfl, rfl⟩

/-- Whatever next state `x` answers is in the frame of `i`, and PA is 0 in it but after PMEMACC (R41). -/
def WritesTo (i : Instr) (s : State) (x : Host.Outcome State Fault Refusal) : Prop :=
  ∀ t, x = .next t → WriteFrame i s t ∧ (t.pa = true → i = .pmemacc)

section Frame

variable {i : Instr} {s t u : State} {o src dst : Operand}

/-! #### The operations inside an instruction -/

/-- `u` differs from `s` in what data and port accesses touch only. -/
def OnlyAccesses (s u : State) : Prop :=
  ∃ ae mem portScript events draws,
    u = { s with ae := ae, mem := mem, portScript := portScript, events := events, draws := draws }

theorem onlyAccesses_afterRead (s : State) (o : Operand) : OnlyAccesses s (s.afterRead o) := by
  unfold State.afterRead
  split <;> exact ⟨_, _, _, _, _, rfl⟩

theorem onlyAccesses_afterWrite (s : State) (o : Operand) (v : Byte) : OnlyAccesses s (s.afterWrite o v) := by
  unfold State.afterWrite
  split
  · exact ⟨_, _, _, _, _, rfl⟩
  · split <;> exact ⟨_, _, _, _, _, rfl⟩

theorem onlyAccesses_portIn (s : State) (port : Byte) : OnlyAccesses s (s.portIn port).2 := by
  unfold State.portIn
  split <;> exact ⟨_, _, _, _, _, rfl⟩

/-- Accesses before the frame of an instruction leave the registers, flags and counters to it. -/
theorem WriteFrame.after_accesses (hu : OnlyAccesses s u) (h : WriteFrame i u t)
    (hMem : StoresAtMost (storesThrough i) s t.mem) (hEvents : AddsEvents s.c s t.events)
    (hPorts : i.usesPorts = false → t.events = s.events ∧ t.portScript = s.portScript) : WriteFrame i s t := by
  obtain ⟨ae, mem, portScript, events, draws, rfl⟩ := hu
  exact { h with mem_changed := hMem, events_added := hEvents, ports_unused := hPorts }

@[simp] theorem State.afterRead_commits (s : State) (r o : Operand) : (s.afterRead r).Commits o ↔ s.Commits o := by
  simp [State.Commits]

theorem WriteFrame.after_read (h : WriteFrame i (s.afterRead o) t) : WriteFrame i s t := by
  refine h.after_accesses (onlyAccesses_afterRead s o) ?_ ?_ ?_
  · simpa [StoresAtMost] using h.mem_changed
  · simpa [AddsEvents] using h.events_added
  · simpa using h.ports_unused

/-- A write replaces the byte of its operand or leaves memory alone (R59). -/
theorem State.afterWrite_mem_cases (hw : s.writable o) (v : Byte) :
    (s.afterWrite o v).mem = s.mem ∨
      s.Commits o ∧ (s.afterWrite o v).mem = s.mem.set (s.phys (s.ea o)) v := by
  unfold State.afterWrite
  split
  · exact .inl rfl
  · next hr =>
    split
    · exact .inl rfl
    · next hs =>
      rcases hw with h | ⟨hPA, hUser⟩ | ⟨hp, -⟩
      · exact absurd h hr
      · simp [hPA, hUser] at hs
      · exact .inr ⟨⟨by simpa using hr, by simpa using hs, hp⟩, rfl⟩

theorem storesAtMost_afterWrite (hw : s.writable o) (v : Byte) :
    StoresAtMost (some o) s (s.afterWrite o v).mem := by
  intro hNe
  rcases State.afterWrite_mem_cases hw v with hSame | ⟨hCommit, hSet⟩
  · exact absurd hSame hNe
  · exact ⟨o, v, rfl, hCommit, hSet⟩

theorem WriteFrame.after_write {v : Byte} (ho : storesThrough i = some o) (hw : s.writable o)
    (h : WriteFrame i (s.afterWrite o v) t) (hMem : t.mem = (s.afterWrite o v).mem) : WriteFrame i s t := by
  refine h.after_accesses (onlyAccesses_afterWrite s o v) ?_ ?_ ?_
  · exact ho ▸ hMem ▸ storesAtMost_afterWrite hw v
  · simpa [AddsEvents] using h.events_added
  · simpa using h.ports_unused

/-- Control goes elsewhere, from a state that has the counters of `s`. -/
theorem WriteFrame.then_setCnt {x : Counter} (hi : i.transfers = true) (hx : s.AimsEven x) (h : WriteFrame i s t)
    (hCfg : t.cfg = s.cfg := by rfl) (hInt : t.inInt = s.inInt := by rfl) (hMF : t.mf = s.mf := by rfl)
    (hPC : t.pc = s.pc := by rfl) (hMC : t.mc = s.mc := by rfl) (hIC : t.ic = s.ic := by rfl) :
    WriteFrame i s (t.setCnt x) where
  a_changed := t.setCnt_a x ▸ h.a_changed
  b_changed := t.setCnt_b x ▸ h.b_changed
  c_changed := t.setCnt_c x ▸ h.c_changed
  cf_changed := t.setCnt_cf x ▸ h.cf_changed
  zf_changed := t.setCnt_zf x ▸ h.zf_changed
  uf_changed := t.setCnt_uf x ▸ h.uf_changed
  ofs_changed := t.setCnt_ofs x ▸ h.ofs_changed
  mf_changed := t.setCnt_mf x ▸ h.mf_changed
  pc_changed := by
    have hForm := hx.forms
    cases hI : s.inInt <;> cases hM : s.mf <;> simp_all
  mc_changed := by
    have hForm := hx.forms
    cases hI : s.inInt <;> cases hM : s.mf <;> simp_all
  ic_changed := by
    have hForm := hx.forms
    cases hI : s.inInt <;> simp_all
  mem_changed := t.setCnt_mem x ▸ h.mem_changed
  events_added := t.setCnt_events x ▸ h.events_added
  ports_unused := t.setCnt_events x ▸ t.setCnt_portScript x ▸ h.ports_unused

/-! #### The shapes of instruction -/

theorem writesTo_refused (r : Refusal) : WritesTo i s (.refused r) := by
  intro t ht
  cases ht

theorem writesTo_finish (h : WriteFrame i s t) : WritesTo i s (finish t) := by
  intro u hu
  obtain rfl := finish_next.1 hu
  exact ⟨{ h with }, nofun⟩

theorem writesTo_ite {p : Prop} [Decidable p] {x y : Host.Outcome State Fault Refusal} (hx : p → WritesTo i s x)
    (hy : ¬p → WritesTo i s y) : WritesTo i s (if p then x else y) := by
  split
  · next h => exact hx h
  · next h => exact hy h

theorem writesTo_load {k : Byte → State → State}
    (h : WriteFrame i (s.afterRead o) (k (s.byteAt o) (s.afterRead o))) : WritesTo i s (load s o k) := by
  intro t ht
  obtain ⟨-, rfl⟩ := load_next.1 ht
  exact writesTo_finish h.after_read _ rfl

theorem writesTo_store {v : Byte} (ho : storesThrough i = some o) : WritesTo i s (store s o v) := by
  intro t ht
  obtain ⟨hw, rfl⟩ := store_next.1 ht
  exact writesTo_finish (.after_write ho hw (v := v) {} rfl) _ rfl

theorem writesTo_modify {f : Byte → Byte × Bool} {k : Byte → Byte × Bool → State → State}
    (ho : storesThrough i = some o)
    (h : ∀ v u, u = (s.afterRead o).afterWrite o (f v).1 → WriteFrame i u (k v (f v) u))
    (hMem : ∀ v r (u : State), (k v r u).mem = u.mem := by intros; rfl) : WritesTo i s (modify s o f k) := by
  intro t ht
  obtain ⟨-, hw, rfl⟩ := modify_next.1 ht
  exact writesTo_finish (WriteFrame.after_read
    (.after_write ho ((s.afterRead_writable o o).2 hw) (h _ _ rfl) (hMem _ _ _))) _ rfl

theorem writesTo_copy {k : State → State} (ho : storesThrough i = some dst) (h : ∀ u, WriteFrame i u (k u))
    (hMem : ∀ u : State, (k u).mem = u.mem := by intros; rfl) : WritesTo i s (copy s src dst k) := by
  intro t ht
  obtain ⟨-, hw, rfl⟩ := copy_next.1 ht
  exact writesTo_finish (WriteFrame.after_read
    (.after_write ho ((s.afterRead_writable src dst).2 hw) (h _) (hMem _))) _ rfl

theorem writesTo_arithMem {f : Byte → Byte × Bool} (ho : storesThrough i = some o) (hCF : i.writesCF = true)
    (hZF : i.writesZF = true) : WritesTo i s (arithMem s o f) :=
  writesTo_modify ho fun _ _ _ => { cf_changed := fun _ => hCF, zf_changed := fun _ => hZF }

theorem writesTo_arithMemX {f : Byte → Byte × Bool} (ho : storesThrough i = some o) (hA : i.writesA = true)
    (hB : i.stepsOrWritesB = true) (hCF : i.writesCF = true) (hZF : i.writesZF = true) :
    WritesTo i s (arithMemX s o f) :=
  writesTo_modify ho fun _ _ _ =>
    { a_changed := fun _ => hA, b_changed := fun _ => hB, cf_changed := fun _ => hCF, zf_changed := fun _ => hZF }

theorem writesTo_shiftMem {f : Byte → Byte × Bool} (ho : storesThrough i = some o) (hCF : i.writesCF = true) :
    WritesTo i s (shiftMem s o f) :=
  writesTo_modify ho fun _ _ _ => { cf_changed := fun _ => hCF }

theorem writesTo_logicMem {f : Byte → Byte → Byte} (ho : storesThrough i = some o) (hZF : i.writesZF = true) :
    WritesTo i s (logicMem s o f) :=
  writesTo_modify ho fun _ _ _ => { zf_changed := fun _ => hZF }

theorem writesTo_jumpIf {x : Counter} (taken : Bool) (hi : i.transfers = true) (hx : s.AimsEven x) :
    WritesTo i s (jumpIf s taken x) := by
  refine writesTo_finish ?_
  split
  · exact .then_setCnt hi hx {}
  · exact {}

theorem writesTo_linkIf {x : Counter} (taken : Bool) (hi : i.transfers = true) (hA : i.writesA = true)
    (hB : i.stepsOrWritesB = true) (hx : s.AimsEven x) : WritesTo i s (linkIf s taken x) := by
  refine writesTo_finish ?_
  split
  · exact .then_setCnt hi hx { a_changed := fun _ => hA, b_changed := fun _ => hB }
  · exact {}

theorem writesTo_loopTo {x : Counter} (d : Byte) (hi : i.transfers = true) (hB : i.stepsOrWritesB = true)
    (hC : i.writesC = true) (hx : s.AimsEven x) : WritesTo i s (loopTo s x d) :=
  writesTo_ite (fun _ => writesTo_finish {}) fun _ =>
    writesTo_finish (.then_setCnt hi hx { b_changed := fun _ => hB, c_changed := fun _ => hC })

theorem writesTo_loopB (d : Byte) (hi : i.transfers = true) (hB : i.stepsOrWritesB = true)
    (hC : i.writesC = true) : WritesTo i s (loopB s d) :=
  writesTo_ite (fun _ => writesTo_loopTo d hi hB hC (s.aimsEven_relTarget s.b)) fun _ => writesTo_refused _

theorem writesTo_loopShift {f : Byte → Byte × Bool} (d : Byte) (ho : storesThrough i = some .pointer)
    (hi : i.transfers = true) (hB : i.stepsOrWritesB = true) (hC : i.writesC = true) (hCF : i.writesCF = true) :
    WritesTo i s (loopShift s f d) := by
  refine writesTo_ite (fun _ => writesTo_finish {}) fun _ => writesTo_modify ho ?_ fun _ _ u => State.setCnt_mem _ _
  intro v u hu
  have hCnt : u.cnt = s.cnt := by simp [hu, State.cnt]
  have hx : u.AimsEven s.thisAddr := fun h => s.aimsEven_thisAddr (hCnt ▸ h)
  exact .then_setCnt hi hx { b_changed := fun _ => hB, c_changed := fun _ => hC, cf_changed := fun _ => hCF }

theorem writesTo_loopzero (ho : storesThrough i = some .pointer) (hi : i.transfers = true)
    (hB : i.stepsOrWritesB = true) (hC : i.writesC = true) : WritesTo i s (execLoopzero s) := by
  refine writesTo_ite (fun _ => writesTo_finish {}) fun _ => ?_
  rcases s.dwrite_cases .pointer 0#8 with ⟨hw, e⟩ | ⟨-, e | e⟩ <;> rw [e]
  · have hCnt : (s.afterWrite .pointer 0#8).cnt = s.cnt := by simp [State.cnt]
    have hx : (s.afterWrite .pointer 0#8).AimsEven s.thisAddr := fun h => s.aimsEven_thisAddr (hCnt ▸ h)
    exact writesTo_finish (.after_write ho hw
      (.then_setCnt hi hx { b_changed := fun _ => hB, c_changed := fun _ => hC }) (State.setCnt_mem _ _))
  · exact writesTo_refused _
  · exact writesTo_refused _

/-! #### The writers of UF -/

/-- UF changes on a core with user mode only (R35). -/
theorem State.hasUserMode_of_setUF {v : Bool} (h : (s.setUF v).uf ≠ s.uf) : s.cfg.hasUserMode = true := by
  by_contra hNo
  simp [hNo] at h

theorem writesTo_setflag (hCF : i.writesCF = true) (hZF : i.writesZF = true) (hUF : i.writesUF = true)
    (hOF : i.writesOF = true) : WritesTo i s (setflag s o) := by
  rcases s.dread_cases o with ⟨-, e⟩ | ⟨-, e⟩ <;> rw [setflag, e]
  · refine writesTo_ite (fun _ => writesTo_finish (WriteFrame.after_read (o := o) ?_)) fun _ => writesTo_refused _
    exact {
      cf_changed := fun _ => hCF
      zf_changed := fun _ => hZF
      uf_changed := fun h => ⟨hUF, State.hasUserMode_of_setUF h⟩
      ofs_changed := fun _ => hOF }
  · exact writesTo_refused _

theorem writeFrame_loadAllFlags (m : BitVec 7) (u : State) (v : Byte) :
    WriteFrame (.reti m) u (u.loadAllFlags v).leaveInterrupt where
  cf_changed _ := rfl
  zf_changed _ := rfl
  uf_changed h := ⟨rfl, State.hasUserMode_of_setUF h⟩
  ofs_changed _ := rfl
  mf_changed _ := ⟨m, rfl⟩

theorem writesTo_reti (m : BitVec 7) : WritesTo (.reti m) s (execReti m s) :=
  writesTo_ite (fun _ => writesTo_load (writeFrame_loadAllFlags m _ _)) fun _ => writesTo_refused _

/-! #### The port instructions -/

theorem AddsEvents.trans {port : Byte} {l : List PortEvent} (h : AddsEvents port s u.events)
    (h' : AddsEvents port u l) : AddsEvents port s l := by
  obtain ⟨new, hu, hNew⟩ := h
  obtain ⟨new', rfl, hNew'⟩ := h'
  refine ⟨new ++ new', by rw [hu, List.append_assoc], fun e he => ?_⟩
  exact (List.mem_append.1 he).elim (hNew e) (hNew' e)

/-- Port accesses on port C before the frame of a port instruction. -/
theorem WriteFrame.after_ports (hi : i.usesPorts = true) (hu : OnlyAccesses s u) (hMem : u.mem = s.mem)
    (hEvents : AddsEvents s.c s u.events) (h : WriteFrame i u t) : WriteFrame i s t := by
  have hNew : AddsEvents s.c u t.events := by
    obtain ⟨ae, mem, portScript, events, draws, rfl⟩ := hu
    exact h.events_added
  have hStore : StoresAtMost (storesThrough i) s t.mem := by
    obtain ⟨ae, mem, portScript, events, draws, rfl⟩ := hu
    obtain rfl : mem = s.mem := hMem
    exact h.mem_changed
  exact h.after_accesses hu hStore (hEvents.trans hNew) fun hNot => absurd (hNot.symm.trans hi) (by decide)

theorem WriteFrame.after_portIn (hi : i.usesPorts = true) (h : WriteFrame i (s.portIn s.c).2 t) : WriteFrame i s t :=
  h.after_ports hi (onlyAccesses_portIn s s.c) (s.portIn_mem s.c) ⟨_, s.portIn_events s.c, by simp⟩

theorem WriteFrame.after_portOut {v : Byte} (hi : i.usesPorts = true) (h : WriteFrame i (s.portOut s.c v) t) :
    WriteFrame i s t :=
  have hOut : OnlyAccesses s (s.portOut s.c v) := ⟨_, _, _, _, _, rfl⟩
  h.after_ports hi hOut rfl ⟨_, s.portOut_events s.c v, by simp⟩

theorem writesTo_inTo (hi : i.usesPorts = true) (ho : storesThrough i = some o) : WritesTo i s (inTo s o) := by
  intro t ht
  obtain ⟨hFrame, hPA⟩ := writesTo_store ho t ht
  exact ⟨hFrame.after_portIn hi, hPA⟩

theorem writesTo_outFrom (hi : i.usesPorts = true) : WritesTo i s (outFrom s o) := by
  refine writesTo_load (.after_portOut (v := s.byteAt o) hi ?_)
  rw [State.afterRead_c]
  exact {}

end Frame

/-- Every ordinary instruction, by the family that gives it its meaning and by the parts of the state it writes. -/
theorem writesTo_runOrdinary (i : Instr) (s : State) : WritesTo i s (runOrdinary i s) := by
  cases i with
  | rsv01At00 | rsv01From04 | rsv01At23 | rsv01From25 | rsv01From29 | rsv01From32 | rsv01From44 | rsv01At53
  | rsv01From55 | rsv01From59 | clear0 | clearK | rsv01From70 | loadOpt | saveOpt | rsv01AtC3 | rsv01FromC5
  | rsv01FromC9 | rsv01FromE2 | rsv01FromF4 | roopshlc | roopshrc | unused0F | rsv10At7E | rsv11At7E | unusable12
  | unusable13 | unusable14 | unusable15 | unusable16 | unusable17 | unusable18 | unusable19 | unusable1A
  | unusable1B | unused1C | rsv1FAt7F | rsv1FFrom80 | hardMacro | opmsb => exact writesTo_refused _
  | nop | clear1 | disable | enable => exact writesTo_finish {}
  | ldAB | getstat | ldAN => exact writesTo_finish { a_changed := fun _ => rfl }
  | ldBA | ldBC | ldBN => exact writesTo_finish { b_changed := fun _ => rfl }
  | ldCN => exact writesTo_finish { c_changed := fun _ => rfl }
  | swap | getpc | getmc => exact writesTo_finish { a_changed := fun _ => rfl, b_changed := fun _ => rfl }
  | getver | getid | cpuinfo =>
    exact writesTo_ite (fun _ => writesTo_finish { c_changed := fun _ => rfl }) fun _ => writesTo_refused _
  | clc => exact writesTo_finish { cf_changed := fun _ => rfl }
  | offset => exact writesTo_finish { ofs_changed := fun _ => rfl }
  | addAC | addcAC | subAC | subcAC =>
    exact writesTo_finish
      { a_changed := fun _ => rfl, cf_changed := fun _ => rfl, zf_changed := fun _ => rfl }
  | andAC | andAN | xorAC | xorAN | orAC | orAN =>
    exact writesTo_finish { a_changed := fun _ => rfl, zf_changed := fun _ => rfl }
  | usermode => exact writesTo_finish { uf_changed := fun h => ⟨rfl, State.hasUserMode_of_setUF h⟩ }
  | setpc =>
    exact writesTo_ite (fun _ => writesTo_refused _) fun hEven => writesTo_finish
      { pc_changed := fun _ => ⟨.inl rfl, fun _ => counterOk_wrap s.cfg (Bool.eq_false_iff.2 hEven)⟩ }
  | setmc =>
    exact writesTo_ite (fun _ => writesTo_refused _) fun hEven => writesTo_finish
      { mc_changed := fun _ => ⟨.inl rfl, fun _ => counterOk_wrap s.cfg (Bool.eq_false_iff.2 hEven)⟩ }
  | int k =>
    exact writesTo_ite (fun _ => writesTo_refused _) fun _ => writesTo_finish
      { ic_changed := fun _ => ⟨.inl ⟨k, rfl⟩, fun _ => counterOk_wrap s.cfg (vector_even k)⟩ }
  | pmemacc =>
    refine writesTo_ite (fun _ => ?_) fun _ => writesTo_refused _
    rintro t ⟨⟩
    exact ⟨{}, fun _ => rfl⟩
  | reti m => exact writesTo_reti m
  | inputa => exact writesTo_finish (.after_portIn rfl { a_changed := fun _ => rfl })
  | inout =>
    exact writesTo_finish (.after_portOut (v := s.b) rfl (.after_portIn rfl { a_changed := fun _ => rfl }))
  | outputb => exact writesTo_finish (.after_portOut (v := s.b) rfl {})
  | inD | inP | inX => exact writesTo_inTo rfl rfl
  | outD | outP | outX => exact writesTo_outFrom rfl
  | setflagD | setflagP | setflagX => exact writesTo_setflag rfl rfl rfl rfl
  | stAD | stAX | stBD | zeroX | stCD | stCP | stCX | getflagD | getflagP | getflagX => exact writesTo_store rfl
  | shlD | shlP | shlX | shrD | shrP | shrX | shlcD | shlcP | shlcX | shrcD | shrcP | shrcX =>
    exact writesTo_shiftMem rfl rfl
  | andMemD | andMemP | andMemX | xorMemD | xorMemP | xorMemX | orMemD | orMemP | orMemX =>
    exact writesTo_logicMem rfl rfl
  | incD | incP | incX | inccD | inccP | inccX | addMemD | addMemP | addMemX | addcMemD | addcMemP | addcMemX | decD
  | decP | decX | deccD | deccP | deccX | subMemD | subMemP | subMemX | subcMemD | subcMemP | subcMemX =>
    exact writesTo_arithMem rfl rfl rfl
  | incxD | incxP | incxX | incxcD | incxcP | incxcX | decxD | decxP | decxX | decxcD | decxcP | decxcX =>
    exact writesTo_arithMemX rfl rfl rfl rfl rfl
  | addAD | addAX | addcAD | addcAX | subAD | subAX | subcAD | subcAX =>
    exact writesTo_load { a_changed := fun _ => rfl, cf_changed := fun _ => rfl, zf_changed := fun _ => rfl }
  | andAD | andAX | xorAD | xorAX | orAD | orAX =>
    exact writesTo_load { a_changed := fun _ => rfl, zf_changed := fun _ => rfl }
  | ldAD | ldAP | ldAX => exact writesTo_load { a_changed := fun _ => rfl }
  | ldBD | ldBP | ldBX => exact writesTo_load { b_changed := fun _ => rfl }
  | ldCD | ldCP | ldCX => exact writesTo_load { c_changed := fun _ => rfl }
  | stabD | stac | stabX => exact writesTo_copy rfl fun _ => {}
  | stabpD | stabpX => exact writesTo_copy rfl fun _ => { b_changed := fun _ => rfl }
  | stacpD | stacpP | stacpX | stzcp =>
    exact writesTo_copy rfl fun _ => { b_changed := fun _ => rfl, c_changed := fun _ => rfl }
  | jmpM | jmpC0 | jmpC1 | jmpZ0 | jmpZ1 | jmpP | jmpX => exact writesTo_jumpIf _ rfl (s.aimsEven_wordTarget _)
  | jrFwd | jrB | jrBack | jrc0Fwd | jrc0B | jrc0Back | jrc1Fwd | jrc1B | jrc1Back | jrz0Fwd | jrz0B | jrz0Back
  | jrz1Fwd | jrz1B | jrz1Back => exact writesTo_jumpIf _ rfl (s.aimsEven_relTarget _)
  | balM | balC0 | balC1 | balZ0 | balZ1 | balP | balX =>
    exact writesTo_linkIf _ rfl rfl rfl (s.aimsEven_wordTarget _)
  | brFwd | brB | brBack | brc0Fwd | brc0B | brc0Back | brc1Fwd | brc1B | brc1Back | brz0Fwd | brz0B | brz0Back
  | brz1Fwd | brz1B | brz1Back => exact writesTo_linkIf _ rfl rfl rfl (s.aimsEven_relTarget _)
  | loopdecWait => exact writesTo_loopTo _ rfl rfl rfl s.aimsEven_thisAddr
  | loopdecFwd | loopdecBack | loopincFwd | loopincBack =>
    exact writesTo_loopTo _ rfl rfl rfl (s.aimsEven_relTarget _)
  | loopdecB | loopincB => exact writesTo_loopB _ rfl rfl rfl
  | loopshrc | loopshlc => exact writesTo_loopShift _ rfl rfl rfl rfl rfl
  | loopzero => exact writesTo_loopzero rfl rfl rfl rfl

/-! ### The words with bit 14 or bit 15 set -/

section Words

variable {s t : State} {op : BitVec 6} {xx : Byte}

/-- A word with bit 14 set is an end word while MF = 1, else an entry (R301 to R303, R92). -/
theorem macroWord_next : macroWord op xx s = .next t ↔ s.extended op = false ∧ s.inInt = false ∧
    (if s.mf then macroEnd op xx s else macroEntry op xx s) = .next t := by
  unfold macroWord
  cases s.extended op <;> cases s.inInt <;> simp

/-- All a millicode end word can answer as a next state (R302). -/
theorem macroEnd_next : macroEnd op xx s = .next t ↔ transfersControl op xx = false ∧
    ∃ u, runOrdinary (decodeOp op xx) s = .next u ∧ t = { u with mf := false } := by
  unfold macroEnd
  cases transfersControl op xx <;> simp [mapNext_next]

/-- All a millicode entry can answer as a next state (R301). -/
theorem macroEntry_next : macroEntry op xx s = .next t ↔ s.writable (.direct 0#7) ∧
    t = { (s.afterWrite (.direct 0#7) xx).setMc ((op.setWidth 17 <<< 4) + s.cfg.macroBase) with
      c := xx, mf := true, pa := false } := by
  rcases s.dwrite_cases (.direct 0#7) xx with ⟨h, e⟩ | ⟨h, e | e⟩ <;> simp [macroEntry, e, h]

/-- An opmsb word that completes is no millicode entry; it adds 1 to B after the word without opmsb (R306). -/
theorem fastWord_next {mac : Bool} (h : fastWord mac op xx s = .next t) : (mac = true → s.mf = true) ∧
    ∃ u, (if mac then macroWord op xx s else runOrdinary (decodeOp op xx) s) = .next u ∧
      t = { u with b := u.b + 1#8 } := by
  unfold fastWord at h
  split at h
  · cases h
  · split at h
    · cases h
    · next hEntry =>
      split at h
      · cases h
      · split at h
        · cases h
        · exact ⟨by simpa using hEntry, mapNext_next.1 h⟩

theorem execOpmsb_next {mac : Bool} (h : execOpmsb mac op xx s = .next t) : fastWord mac op xx s = .next t := by
  unfold execOpmsb at h
  cases hMode : s.cfg.opmsbMode with
  | none | debug | parity => simp [hMode] at h
  | fast => simpa [hMode] using h

/-- The word `i` runs the ordinary instruction it carries, with next state `u`; the bits above that instruction then
leave `b` in B and `mf` in MF (R302, R306). -/
structure RunsCarried (i : Instr) (s u : State) (b : Byte) (mf : Bool) : Prop where
  ordinary_eq : s.ordinary i = i.carried
  storeOperand_eq : s.storeOperand i = storesThrough i.carried
  run_eq : runOrdinary i.carried s = .next u
  b_changed : b ≠ u.b → ∃ mac op xx, i = .opmsb mac op xx
  mf_changed : mf ≠ u.mf → (∃ op xx, i = .hardMacro op xx) ∨ ∃ op xx, i = .opmsb true op xx

/-- All an instruction can answer as a next state: that of the ordinary instruction it carries, but for B and MF, or
that of a millicode entry. -/
theorem exec_next_cases {i : Instr} (h : exec i s = .next t) :
    (∃ u b mf, RunsCarried i s u b mf ∧ t = { u with b := b, mf := mf }) ∨
      ∃ op xx, i = .hardMacro op xx ∧ s.mf = false ∧ macroEntry op xx s = .next t := by
  cases i with
  | hardMacro op xx =>
    obtain ⟨-, -, hWord⟩ := macroWord_next.1 h
    cases hMF : s.mf with
    | false => exact .inr ⟨op, xx, rfl, rfl, by simpa [hMF] using hWord⟩
    | true =>
      rw [hMF, if_pos rfl] at hWord
      obtain ⟨-, u, hRun, rfl⟩ := macroEnd_next.1 hWord
      refine .inl ⟨u, _, _, ?_, rfl⟩
      exact {
        ordinary_eq := by simp [State.ordinary, Instr.carried, hMF]
        storeOperand_eq := by simp [State.storeOperand, hMF]
        run_eq := hRun
        b_changed := absurd rfl
        mf_changed := fun _ => .inl ⟨op, xx, rfl⟩ }
  | opmsb mac op xx =>
    obtain ⟨hMF, v, hWord, rfl⟩ := fastWord_next (execOpmsb_next h)
    cases mac with
    | false => exact .inl ⟨v, _, _, ⟨rfl, rfl, hWord, fun _ => ⟨_, op, xx, rfl⟩, absurd rfl⟩, rfl⟩
    | true =>
      obtain ⟨-, -, hEnd⟩ := macroWord_next.1 hWord
      rw [hMF rfl, if_pos rfl] at hEnd
      obtain ⟨-, u, hRun, rfl⟩ := macroEnd_next.1 hEnd
      exact .inl ⟨u, _, _, ⟨rfl, rfl, hRun, fun _ => ⟨_, op, xx, rfl⟩, fun _ => .inr ⟨op, xx, rfl⟩⟩, rfl⟩
  | _ => exact .inl ⟨t, _, _, ⟨rfl, rfl, h, absurd rfl, absurd rfl⟩, rfl⟩

end Words

/-! ### The invariant -/

section Invariant

variable {s t : State}

/-- The active counter of a state in the invariant is one of the three (R27). -/
theorem State.Inv.cnt_ok (h : s.Inv) : CounterOk s.cfg s.cnt := by
  unfold State.cnt
  split
  · exact h.ic_ok
  · split
    · exact h.mc_ok
    · exact h.pc_ok

/-- A counter that is left alone or formed anew can stand at a boundary. -/
theorem State.Inv.counter_ok (h : s.Inv) {v w : Counter} (hv : CounterOk s.cfg v) (hw : w ≠ v → s.Forms w) :
    CounterOk s.cfg w := by
  by_cases hEq : w = v
  · exact hEq ▸ hv
  · exact hw hEq h.cnt_ok.1

/-- A memory that differs in one installed byte keeps its form. -/
theorem State.Inv.mem_ok {op : Option Operand} (h : s.Inv) {m : Memory} (hm : StoresAtMost op s m) :
    m.wf ∧ ∀ e ∈ m, e.1 < s.cfg.memBytes := by
  by_cases hEq : m = s.mem
  · exact hEq ▸ ⟨h.mem_wf, h.mem_installed⟩
  · obtain ⟨o, v, -, ⟨-, -, hp⟩, rfl⟩ := hm hEq
    refine ⟨Memory.set_wf h.mem_wf _ _, fun e he => ?_⟩
    rcases Memory.mem_set he with rfl | he
    · exact hp
    · exact h.mem_installed e he

/-- On a core without user mode no operand is restricted (R58). -/
theorem State.hasUserMode_of_restricted {o : Operand} (h : s.restricted o = true) : s.cfg.hasUserMode = true := by
  obtain ⟨⟨hUser, -⟩, -⟩ := (s.restricted_iff o).1 h
  exact hUser

/-- The frames of an ordinary instruction keep the invariant. -/
theorem State.Inv.of_frames {i : Instr} {ops : Operand → Prop} (h : s.Inv) (hExt : s.Extends t)
    (hStatus : StatusFrame i ops s t) (hFrame : WriteFrame i s t) : t.Inv := by
  have hCfg := hExt.cfg_eq
  obtain ⟨hWf, hInstalled⟩ := h.mem_ok hFrame.mem_changed
  exact {
    cfg_wf := hCfg ▸ h.cfg_wf
    mem_wf := hWf
    mem_installed := hCfg ▸ hInstalled
    pc_ok := hCfg ▸ h.counter_ok h.pc_ok fun hNe => (hFrame.pc_changed hNe).2
    mc_ok := hCfg ▸ h.counter_ok h.mc_ok fun hNe => (hFrame.mc_changed hNe).2
    ic_ok := hCfg ▸ h.counter_ok h.ic_ok fun hNe => (hFrame.ic_changed hNe).2
    tm_zero := hStatus.tm_eq.trans h.tm_zero
    no_user_mode := by
      intro hNo
      rw [hCfg] at hNo
      obtain ⟨hUF, hAE⟩ := h.no_user_mode hNo
      constructor
      · by_contra hSet
        have hUser := (hFrame.uf_changed fun hEq => hSet (hEq.trans hUF)).2
        simp [hNo] at hUser
      · by_contra hSet
        obtain ⟨o, -, hr⟩ := hStatus.ae_set hAE (by simpa using hSet)
        have hUser := State.hasUserMode_of_restricted hr
        simp [hNo] at hUser }

theorem State.Inv.sampleLines (h : s.Inv) : s.sampleLines.Inv := by
  unfold State.sampleLines
  split <;> exact { h with }

/-- The vectors are even (R320). -/
theorem State.Inv.enterInterrupt (h : s.Inv) (k : BitVec 4) : (s.enterInterrupt k).Inv :=
  { h with ic_ok := counterOk_wrap s.cfg (vector_even k) }

theorem State.Inv.setCnt (h : s.Inv) {x : Counter} (hx : x.getLsbD 0 = false) : (s.setCnt x).Inv := by
  have hForm := counterOk_wrap s.cfg hx
  unfold State.setCnt
  split
  · exact { h with ic_ok := hForm }
  · split
    · exact { h with mc_ok := hForm }
    · exact { h with pc_ok := hForm }

/-- A direct operand is not restricted, so a write through it leaves AE alone (R58). -/
theorem State.afterWrite_direct_ae (s : State) (m : BitVec 7) (v : Byte) : (s.afterWrite (.direct m) v).ae = s.ae := by
  rw [State.afterWrite, State.restricted_direct, if_neg (by decide)]
  split <;> rfl

/-- A millicode entry is even: the entries are 16 bytes apart and MACRO_BASE is even (R28, R301). -/
theorem State.Inv.macroEntry {op : BitVec 6} {xx : Byte} (h : s.Inv) (ht : macroEntry op xx s = .next t) : t.Inv := by
  obtain ⟨hw, rfl⟩ := macroEntry_next.1 ht
  obtain ⟨-, -, -, -, -, -, -, -, hBase⟩ := h.cfg_wf
  have hTarget : ((op.setWidth 17 <<< 4) + s.cfg.macroBase).getLsbD 0 = false :=
    getLsbD_zero_add (by simp) hBase
  obtain ⟨hWf, hInstalled⟩ := h.mem_ok (storesAtMost_afterWrite hw xx)
  have hCfg := s.afterWrite_cfg (.direct 0#7) xx
  exact {
    cfg_wf := hCfg ▸ h.cfg_wf
    mem_wf := hWf
    mem_installed := hCfg ▸ hInstalled
    pc_ok := by simpa using h.pc_ok
    mc_ok := counterOk_wrap _ hTarget
    ic_ok := by simpa using h.ic_ok
    tm_zero := by simpa using h.tm_zero
    no_user_mode := by simpa [State.afterWrite_direct_ae] using h.no_user_mode }

theorem State.Inv.exec {i : Instr} (h : s.Inv) (ht : exec i s = .next t) : t.Inv := by
  rcases exec_next_cases ht with ⟨u, b, mf, hu, rfl⟩ | ⟨op, xx, -, -, hEntry⟩
  · have hInv : u.Inv := h.of_frames (extendsTo_runOrdinary _ s u hu.run_eq) (statusTo_runOrdinary _ s u hu.run_eq)
      (writesTo_runOrdinary _ s u hu.run_eq).1
    exact { hInv with }
  · exact h.macroEntry hEntry

/-- Settles O17: sampling, interrupt entry, the fetch and every instruction keep the invariant. -/
theorem stepKeepsInv : Obligations.StepKeepsInv := by
  intro s t h ht
  have hSample := h.sampleLines
  rcases step_next.1 ht with ⟨k, -, rfl⟩ | ⟨-, i, u, hFetch, hExec⟩
  · exact hSample.enterInterrupt k
  · obtain rfl := State.fetchInstr_ok_state hFetch
    exact (hSample.setCnt (getLsbD_zero_add hSample.cnt_ok.1 (by decide))).exec hExec

end Invariant

/-! ### The statements about single parts of the state -/

/-- The frame of the ordinary instruction a word runs. -/
theorem RunsCarried.frame {i : Instr} {s u : State} {b : Byte} {mf : Bool} (h : RunsCarried i s u b mf) :
    WriteFrame (s.ordinary i) s u ∧ (u.pa = true → s.ordinary i = .pmemacc) :=
  h.ordinary_eq ▸ writesTo_runOrdinary _ s u h.run_eq

/-- Settles O23: the register part of the frame; an opmsb word adds 1 to B, a millicode entry loads C. -/
theorem registerFrame : Obligations.RegisterFrame := by
  intro i s t h
  rcases exec_next_cases h with ⟨u, b, mf, hu, rfl⟩ | ⟨op, xx, rfl, hMF, hEntry⟩
  · obtain ⟨hFrame, -⟩ := hu.frame
    refine ⟨hFrame.a_changed, fun hB => ?_, fun hC => .inl (hFrame.c_changed hC)⟩
    by_cases hSame : b = u.b
    · exact .inl (hFrame.b_changed (hSame ▸ hB))
    · exact .inr (hu.b_changed hSame)
  · obtain ⟨-, rfl⟩ := macroEntry_next.1 hEntry
    exact ⟨absurd (by simp), absurd (by simp), fun _ => .inr ⟨op, xx, rfl, hMF⟩⟩

/-- Settles O24: the flag part of the frame; the words with bit 14 write MF. -/
theorem flagFrame : Obligations.FlagFrame := by
  intro i s t h
  rcases exec_next_cases h with ⟨u, b, mf, hu, rfl⟩ | ⟨op, xx, rfl, -, hEntry⟩
  · obtain ⟨hFrame, -⟩ := hu.frame
    refine ⟨hFrame.cf_changed, hFrame.zf_changed, fun hUF => (hFrame.uf_changed hUF).1, hFrame.ofs_changed,
      fun hMF => ?_⟩
    by_cases hSame : mf = u.mf
    · exact .inl (hu.ordinary_eq ▸ hFrame.mf_changed (hSame ▸ hMF))
    · exact .inr (hu.mf_changed hSame)
  · obtain ⟨-, rfl⟩ := macroEntry_next.1 hEntry
    exact ⟨absurd (by simp), absurd (by simp), absurd (by simp), absurd (by simp), fun _ => .inr (.inl ⟨op, xx, rfl⟩)⟩

/-- Settles O25: the counter part of the frame; a millicode entry writes MC. -/
theorem counterFrame : Obligations.CounterFrame := by
  intro i s t h
  rcases exec_next_cases h with ⟨u, b, mf, hu, rfl⟩ | ⟨op, xx, rfl, hMF, hEntry⟩
  · obtain ⟨hFrame, -⟩ := hu.frame
    exact ⟨fun hPC => (hFrame.pc_changed hPC).1, fun hMC => (hFrame.mc_changed hMC).1.imp_right .inr,
      fun hIC => (hFrame.ic_changed hIC).1⟩
  · obtain ⟨-, rfl⟩ := macroEntry_next.1 hEntry
    exact ⟨absurd (by simp), fun _ => .inr (.inl ⟨op, xx, rfl, hMF⟩), absurd (by simp)⟩

/-- PMEMACC sets PA and does not clear it at its end (R120). -/
theorem pa_of_execPmemacc {s t : State} (h : execPmemacc s = .next t) : t.pa = true := by
  unfold execPmemacc at h
  split at h
  · cases h
    rfl
  · cases h

/-- Settles O26: every shape of instruction ends with PA = 0, and PMEMACC has none of the shapes. -/
theorem pendingBitFrame : Obligations.PendingBitFrame := by
  refine ⟨fun i s t h => ?_, fun s k => s.enterInterrupt_pa k⟩
  rcases exec_next_cases h with ⟨u, b, mf, hu, rfl⟩ | ⟨op, xx, rfl, hMF, hEntry⟩
  · obtain ⟨-, hSet⟩ := hu.frame
    refine ⟨hSet, fun hIs => ?_⟩
    have hRun := hu.run_eq
    rw [← hu.ordinary_eq, hIs] at hRun
    exact pa_of_execPmemacc (t := u) hRun
  · obtain ⟨-, rfl⟩ := macroEntry_next.1 hEntry
    simp [State.ordinary, hMF]

/-- An instruction writes memory through its store operand at most. -/
theorem storesAtMost_exec {i : Instr} {s t : State} (h : exec i s = .next t) :
    StoresAtMost (s.storeOperand i) s t.mem := by
  rcases exec_next_cases h with ⟨u, b, mf, hu, rfl⟩ | ⟨op, xx, rfl, hMF, hEntry⟩
  · obtain ⟨hFrame, -⟩ := hu.frame
    rw [hu.storeOperand_eq, ← hu.ordinary_eq]
    exact hFrame.mem_changed
  · obtain ⟨hw, rfl⟩ := macroEntry_next.1 hEntry
    have hOperand : s.storeOperand (.hardMacro op xx) = some (.direct 0#7) := by simp [State.storeOperand, hMF]
    rw [hOperand]
    exact storesAtMost_afterWrite hw xx

/-- A byte that no write through `op` reaches reads as before. -/
theorem StoresAtMost.read_eq {op : Option Operand} {s : State} {m : Memory} (h : StoresAtMost op s m)
    (hWf : s.mem.wf) {p : Nat} (hp : ∀ o, op = some o → s.Commits o → p ≠ s.phys (s.ea o)) :
    m.read p = s.mem.read p := by
  by_cases hEq : m = s.mem
  · rw [hEq]
  · obtain ⟨o, v, ho, hCommit, rfl⟩ := h hEq
    exact Memory.read_set_other hWf v (hp o ho hCommit)

/-- Settles O27: the one write is through the store operand. -/
theorem memoryFrame : Obligations.MemoryFrame :=
  fun _ _ _ hWf h _ hp => (storesAtMost_exec h).read_eq hWf fun o ho _ => hp o ho

/-- Settles O28: the port part of the frame; a millicode entry uses no port. -/
theorem portEventFrame : Obligations.PortEventFrame := by
  intro i s t h
  rcases exec_next_cases h with ⟨u, b, mf, hu, rfl⟩ | ⟨op, xx, rfl, hMF, hEntry⟩
  · obtain ⟨hFrame, -⟩ := hu.frame
    exact ⟨hFrame.events_added, hFrame.ports_unused⟩
  · obtain ⟨-, rfl⟩ := macroEntry_next.1 hEntry
    exact ⟨⟨[], by simp⟩, fun _ => ⟨by simp, by simp⟩⟩

/-! ### The protected bytes -/

/-- A direct operand of the opcode table is not `[127]`, whose encoding is another form (R84). -/
def Operand.Encodable (o : Operand) : Prop := ∀ m, o = .direct m → m ≠ 127#7

/-- In user mode every access that is not restricted, and not under PMEMACC, stays off the bytes from data address 511
up to `USER_LIMIT`: a direct address is at most 510, `[C]` at most 255, a pointer at least `USER_LIMIT` (R55, R58, R84). -/
theorem State.phys_off_protected {s : State} {o : Operand} (hUser : s.userMode = true) (hPA : s.pa = false)
    (hr : s.restricted o = false) (ho : o.Encodable) :
    s.phys (s.ea o) < s.cfg.dataBase + 511 ∨ s.cfg.dataBase + s.cfg.userLimit ≤ s.phys (s.ea o) := by
  have hPhys : s.phys (s.ea o) = s.cfg.dataBase + (s.ea o).toNat := by simp [State.phys, hPA]
  have hPointer (hForm : o.pointerForm = true) : s.cfg.userLimit ≤ (s.ea o).toNat := by
    simpa [State.restricted, hUser, hForm] using hr
  cases o with
  | pointer | indexed m | pageC =>
    have hHigh := hPointer rfl
    omega
  | direct m =>
    have hm : m.toNat ≠ 127 := fun h => ho m rfl (BitVec.eq_of_toNat_eq h)
    have hOF := s.ofs.isLt
    have hAddr := (effectiveAddresses s m).1
    have hLow : (s.ea (.direct m)).toNat ≤ 510 := by
      split at hAddr <;> omega
    omega
  | zeroC =>
    obtain ⟨-, -, -, -, hAddr⟩ := effectiveAddresses s 0#7
    have hc := s.c.isLt
    omega

/-- The store operand of a row of the opcode table is encodable. -/
theorem encodable_of_storesThrough {i : Instr} {o : Operand} (hWf : i.wf = true) (ho : storesThrough i = some o) :
    o.Encodable := by
  rintro m rfl
  revert ho
  cases i with
  | shlD | shrD | shlcD | shrcD | andMemD | xorMemD | orMemD | getflagD | inD | incD | inccD | incxD | incxcD | decD
  | deccD | decxD | decxcD | addMemD | addcMemD | subMemD | subcMemD | stCD | stAD | stBD =>
    rintro ⟨⟩
    exact of_decide_eq_true hWf
  | _ => nofun

/-- The instruction a word carries is a row of the opcode table. -/
theorem carried_wf {i : Instr} (h : i.wf = true) : i.carried.wf = true := by
  cases i with
  | hardMacro op xx | opmsb _ op xx => exact (isRow_decodeOp op xx).1
  | _ => exact h

theorem encodable_of_storeOperand {i : Instr} {s : State} {o : Operand} (hWf : i.wf = true)
    (ho : s.storeOperand i = some o) : o.Encodable := by
  have hCarried (h : storesThrough i.carried = some o) : o.Encodable := encodable_of_storesThrough (carried_wf hWf) h
  cases i with
  | hardMacro op xx =>
    simp only [State.storeOperand] at ho
    split at ho
    · exact hCarried ho
    · cases ho
      rintro m ⟨⟩
      decide
  | _ => exact hCarried ho

/-- Settles O29: a write that is carried out is neither restricted nor under PMEMACC, so its operand is off the
protected bytes. -/
theorem userModeCannotWriteProtected : Obligations.UserModeCannotWriteProtected := by
  intro i s t hWf hMem hUser h p hLo hHi
  refine (storesAtMost_exec h).read_eq hMem fun o ho hCommit => ?_
  obtain ⟨hr, hSuppressed, -⟩ := hCommit
  have hPA : s.pa = false := by simpa [hUser] using hSuppressed
  have hOff := State.phys_off_protected hUser hPA hr (encodable_of_storeOperand hWf ho)
  omega

end Sys2Proof.Machine
end

section
/-! PROOFS. Non-interference in user mode (R58, D14, D15): an instruction run on two memories that differ in the
protected bytes alone has outcomes that differ in them alone. -/

namespace Sys2Proof.Machine

/-! ### Two memories that user mode cannot tell apart -/

/-- In the user mode of the core `c`, with no PMEMACC pending, `m` may stand for the memory of `s`: both are in
canonical form, and alike but for the protected bytes. -/
structure Interchangeable (c : Config) (s : State) (m : Memory) : Prop where
  cfg_eq : s.cfg = c
  userMode : s.userMode = true
  pa_zero : s.pa = false
  mem_wf : s.mem.wf
  other_wf : m.wf
  agree : AgreeOutside (c.dataBase + 511) (c.dataBase + c.userLimit) s.mem m

/-- The two outcomes differ in nothing but the protected bytes of the core `c`. -/
abbrev Indistinct (c : Config) (x x' : Host.Outcome State Fault Refusal) : Prop :=
  SameOutcomeOutside (c.dataBase + 511) (c.dataBase + c.userLimit) x x'

/-- `s` with the memory `m`. -/
def State.withMem (s : State) (m : Memory) : State := { s with mem := m }

/-- The update `f` of a state neither looks at memory nor changes it. -/
def MemoryBlind (f : State → State) : Prop := ∀ (u : State) (m : Memory), f (u.withMem m) = (f u).withMem m

theorem MemoryBlind.mem_eq {f : State → State} (hf : MemoryBlind f) (u : State) : (f u).mem = u.mem := by
  have hMem := congrArg State.mem (hf u u.mem)
  exact hMem

theorem memoryBlind_setCnt (x : Counter) : MemoryBlind (·.setCnt x) := by
  intro u m
  change (if u.inInt then _ else if u.mf then _ else _) =
    (if u.inInt then _ else if u.mf then _ else _ : State).withMem m
  split_ifs <;> rfl

theorem MemoryBlind.then_setCnt {f : State → State} (hf : MemoryBlind f) (x : Counter) :
    MemoryBlind fun u => (f u).setCnt x := by
  intro u m
  simp only [hf u m]
  exact memoryBlind_setCnt x (f u) m

/-- A port input yields the same byte whatever memory is, and leaves memory alone. -/
theorem State.portIn_withMem (s : State) (m : Memory) (port : Byte) :
    (s.withMem m).portIn port = ((s.portIn port).1, (s.portIn port).2.withMem m) := by
  have hScript : (s.withMem m).portScript = s.portScript := rfl
  cases h : s.portScript <;> simp only [State.portIn, hScript, h] <;> rfl

/-- The update INPUTA makes (R124). -/
theorem memoryBlind_portIn_a : MemoryBlind fun u => { (u.portIn u.c).2 with a := (u.portIn u.c).1 } := by
  intro u m
  have hIn := u.portIn_withMem m u.c
  simp only [show (u.withMem m).c = u.c from rfl, hIn]
  rfl

/-- The update INOUT makes (R126). -/
theorem memoryBlind_portOut_portIn_a : MemoryBlind fun u =>
    { ((u.portOut u.c u.b).portIn u.c).2 with a := ((u.portOut u.c u.b).portIn u.c).1 } :=
  fun u m => memoryBlind_portIn_a (u.portOut u.c u.b) m

section Accesses

variable {c : Config} {s : State} {m : Memory} {o src dst : Operand}

/-! #### The operations inside an instruction -/

/-- An access that is not restricted is off the protected bytes, so both memories hold the same byte there. -/
theorem Interchangeable.read_eq (h : Interchangeable c s m) (hr : s.restricted o = false) (ho : o.Encodable) :
    m.read (s.phys (s.ea o)) = s.mem.read (s.phys (s.ea o)) := by
  have hOff := State.phys_off_protected h.userMode h.pa_zero hr ho
  rw [h.cfg_eq] at hOff
  exact (h.agree _ hOff).symm

/-- A read answers the same byte on both memories, and stops on both or on none. -/
theorem Interchangeable.dread_cases (h : Interchangeable c s m) (ho : o.Encodable) :
    (∃ r, s.dread o = .refused r ∧ (s.withMem m).dread o = .refused r) ∨
      ∃ v u, s.dread o = .ok v u ∧ (s.withMem m).dread o = .ok v (u.withMem m) ∧
        Interchangeable c u m := by
  by_cases hr : s.restricted o = true
  · exact .inr ⟨_, _, State.dread_of_restricted hr, State.dread_of_restricted (s := s.withMem m) hr, { h with }⟩
  · have hr := Bool.eq_false_iff.2 hr
    by_cases hp : s.phys (s.ea o) < s.cfg.memBytes
    · have hOther := State.dread_installed (s := s.withMem m) hr hp
      exact .inr ⟨_, s, State.dread_installed hr hp, hOther.trans (congrArg (Res.ok · _) (h.read_eq hr ho)), h⟩
    · have hp := Nat.not_lt.1 hp
      exact .inl ⟨_, State.dread_outside hr hp, State.dread_outside (s := s.withMem m) hr hp⟩

/-- Writing one byte to both memories leaves them alike but for the protected bytes. -/
theorem Interchangeable.set (h : Interchangeable c s m) (p : Nat) (v : Byte) :
    Interchangeable c { s with mem := s.mem.set p v } (m.set p v) :=
  { h with
    mem_wf := Memory.set_wf h.mem_wf p v
    other_wf := Memory.set_wf h.other_wf p v
    agree := by
      intro q hq
      by_cases hSame : q = p
      · rw [hSame, Memory.read_set_same, Memory.read_set_same]
      · rw [Memory.read_set_other h.mem_wf v hSame, Memory.read_set_other h.other_wf v hSame]
        exact h.agree q hq }

/-- A write changes both memories alike, and stops on both or on none. -/
theorem Interchangeable.dwrite_cases (h : Interchangeable c s m) (o : Operand) (v : Byte) :
    (∃ r, s.dwrite o v = .refused r ∧ (s.withMem m).dwrite o v = .refused r) ∨
      ∃ u m', s.dwrite o v = .ok () u ∧ (s.withMem m).dwrite o v = .ok () (u.withMem m') ∧
        Interchangeable c u m' := by
  by_cases hr : s.restricted o = true
  · exact .inr ⟨_, m, State.dwrite_of_restricted hr v, State.dwrite_of_restricted (s := s.withMem m) hr v,
      { h with }⟩
  · have hr := Bool.eq_false_iff.2 hr
    have hs : ¬(s.pa = true ∧ s.userMode = true) := by simp [h.pa_zero]
    by_cases hp : s.phys (s.ea o) < s.cfg.memBytes
    · cases hn : s.hitsNext (s.phys (s.ea o)) with
      | true => exact .inl ⟨_, State.dwrite_intoNext hr hs hp hn v,
          State.dwrite_intoNext (s := s.withMem m) hr hs hp hn v⟩
      | false => exact .inr ⟨_, _, State.dwrite_installed hr hs hp hn v,
          State.dwrite_installed (s := s.withMem m) hr hs hp hn v, h.set _ v⟩
    · have hp := Nat.not_lt.1 hp
      exact .inl ⟨_, State.dwrite_outside hr hs hp v, State.dwrite_outside (s := s.withMem m) hr hs hp v⟩

theorem encodable_pointer : Operand.pointer.Encodable := fun _ => nofun

/-! #### The shapes of instruction -/

theorem indistinct_refused (c : Config) (r : Refusal) : Indistinct c (.refused r) (.refused r) := rfl

theorem indistinct_ite {p : Prop} [Decidable p] {x x' y y' : Host.Outcome State Fault Refusal}
    (hx : Indistinct c x x') (hy : Indistinct c y y') :
    Indistinct c (if p then x else y) (if p then x' else y') := by
  split
  · exact hx
  · exact hy

theorem indistinct_mapNext {f : State → State} (hf : MemoryBlind f) {x x' : Host.Outcome State Fault Refusal}
    (h : Indistinct c x x') : Indistinct c (mapNext f x) (mapNext f x') := by
  cases x <;> cases x' <;> try exact h
  next t t' =>
    obtain ⟨hAgree, hEq⟩ := h
    have hOther : f t' = (f t).withMem t'.mem := (congrArg f hEq).trans (hf t t'.mem)
    refine ⟨?_, ?_⟩
    · rw [hf.mem_eq, hf.mem_eq]
      exact hAgree
    · rw [hf.mem_eq]
      exact hOther

theorem Interchangeable.dread_then {k k' : Byte → State → Host.Outcome State Fault Refusal}
    (h : Interchangeable c s m) (ho : o.Encodable)
    (hk : ∀ v u, Interchangeable c u m → Indistinct c (k v u) (k' v (u.withMem m))) :
    Indistinct c ((s.dread o).andThen k) (((s.withMem m).dread o).andThen k') := by
  rcases h.dread_cases ho with ⟨r, e, e'⟩ | ⟨v, u, e, e', hu⟩ <;> rw [e, e']
  · exact indistinct_refused c r
  · exact hk v u hu

theorem Interchangeable.dwrite_then {k k' : Unit → State → Host.Outcome State Fault Refusal} {v : Byte}
    (h : Interchangeable c s m)
    (hk : ∀ u m', Interchangeable c u m' → Indistinct c (k () u) (k' () (u.withMem m'))) :
    Indistinct c ((s.dwrite o v).andThen k) (((s.withMem m).dwrite o v).andThen k') := by
  rcases h.dwrite_cases o v with ⟨r, e, e'⟩ | ⟨u, m', e, e', hu⟩ <;> rw [e, e']
  · exact indistinct_refused c r
  · exact hk u m' hu

/-- An instruction that ends after an update which does not touch memory. -/
theorem Interchangeable.finish (h : Interchangeable c s m) {f : State → State} (hf : MemoryBlind f) :
    Indistinct c (finish (f s)) (finish (f (s.withMem m))) := by
  rw [hf]
  refine ⟨?_, rfl⟩
  rw [hf.mem_eq]
  exact h.agree

theorem Interchangeable.load (h : Interchangeable c s m) (ho : o.Encodable) {k : Byte → State → State}
    (hk : ∀ v, MemoryBlind (k v)) : Indistinct c (load s o k) (load (s.withMem m) o k) :=
  h.dread_then ho fun v _ hu => hu.finish (hk v)

theorem Interchangeable.store (h : Interchangeable c s m) (o : Operand) (v : Byte) :
    Indistinct c (store s o v) (store (s.withMem m) o v) :=
  h.dwrite_then fun _ _ hu => hu.finish (f := id) fun _ _ => rfl

theorem Interchangeable.modify (h : Interchangeable c s m) (ho : o.Encodable) {f : Byte → Byte × Bool}
    {k : Byte → Byte × Bool → State → State} (hk : ∀ v r, MemoryBlind (k v r)) :
    Indistinct c (modify s o f k) (modify (s.withMem m) o f k) :=
  h.dread_then ho fun v _ hu => hu.dwrite_then fun _ _ hw => hw.finish (hk v (f v))

theorem Interchangeable.arithMem (h : Interchangeable c s m) (ho : o.Encodable) (f : Byte → Byte × Bool) :
    Indistinct c (arithMem s o f) (arithMem (s.withMem m) o f) :=
  h.modify ho fun _ _ _ _ => rfl

theorem Interchangeable.arithMemX (h : Interchangeable c s m) (ho : o.Encodable) (f : Byte → Byte × Bool) :
    Indistinct c (arithMemX s o f) (arithMemX (s.withMem m) o f) :=
  h.modify ho (k := fun v r t => { t.setCZ r with a := v, b := s.a }) fun _ _ _ _ => rfl

theorem Interchangeable.shiftMem (h : Interchangeable c s m) (ho : o.Encodable) (f : Byte → Byte × Bool) :
    Indistinct c (shiftMem s o f) (shiftMem (s.withMem m) o f) :=
  h.modify ho fun _ _ _ _ => rfl

theorem Interchangeable.logicMem (h : Interchangeable c s m) (ho : o.Encodable) (f : Byte → Byte → Byte) :
    Indistinct c (logicMem s o f) (logicMem (s.withMem m) o f) := by
  have hReg : (s.withMem m).regOperand o = s.regOperand o := by cases o <;> rfl
  simp only [Machine.logicMem, hReg]
  exact h.modify ho fun _ _ _ _ => rfl

theorem Interchangeable.copy (h : Interchangeable c s m) (ho : src.Encodable) {k : State → State}
    (hk : MemoryBlind k) : Indistinct c (copy s src dst k) (copy (s.withMem m) src dst k) :=
  h.dread_then ho fun _ _ hu => hu.dwrite_then fun _ _ hw => hw.finish hk

theorem Interchangeable.setflag (h : Interchangeable c s m) (ho : o.Encodable) :
    Indistinct c (setflag s o) (setflag (s.withMem m) o) :=
  h.dread_then ho fun v _ hu =>
    indistinct_ite (hu.finish (f := (·.loadFlags v)) fun _ _ => rfl) (indistinct_refused c _)

theorem Interchangeable.inTo (h : Interchangeable c s m) (o : Operand) :
    Indistinct c (inTo s o) (inTo (s.withMem m) o) := by
  have hIn : Interchangeable c (s.portIn s.c).2 m := by
    exact {
      cfg_eq := (s.portIn_cfg s.c).trans h.cfg_eq
      userMode := by simpa [State.userMode] using h.userMode
      pa_zero := (s.portIn_pa s.c).trans h.pa_zero
      mem_wf := s.portIn_mem s.c ▸ h.mem_wf
      other_wf := h.other_wf
      agree := s.portIn_mem s.c ▸ h.agree }
  have hSame := s.portIn_withMem m s.c
  simp only [Machine.inTo, show (s.withMem m).c = s.c from rfl, hSame]
  exact hIn.store o _

theorem Interchangeable.jumpIf (h : Interchangeable c s m) (taken : Bool) (x : Counter) :
    Indistinct c (jumpIf s taken x) (jumpIf (s.withMem m) taken x) := by
  cases taken with
  | false => exact h.finish (f := id) fun _ _ => rfl
  | true => exact h.finish (memoryBlind_setCnt x)

theorem Interchangeable.linkIf (h : Interchangeable c s m) (taken : Bool) (x : Counter) :
    Indistinct c (linkIf s taken x) (linkIf (s.withMem m) taken x) := by
  cases taken with
  | false => exact h.finish (f := id) fun _ _ => rfl
  | true => exact h.finish (MemoryBlind.then_setCnt (f := fun u => u.setAB u.link) (fun _ _ => rfl) x)

theorem Interchangeable.loopTo (h : Interchangeable c s m) (x : Counter) (d : Byte) :
    Indistinct c (loopTo s x d) (loopTo (s.withMem m) x d) :=
  indistinct_ite (h.finish (f := id) fun _ _ => rfl)
    (h.finish (MemoryBlind.then_setCnt (f := fun u => { u with c := u.c - 1#8, b := u.b + d }) (fun _ _ => rfl) x))

theorem Interchangeable.loopB (h : Interchangeable c s m) (d : Byte) :
    Indistinct c (loopB s d) (loopB (s.withMem m) d) :=
  indistinct_ite (h.loopTo _ d) (indistinct_refused c _)

theorem Interchangeable.loopShift (h : Interchangeable c s m) (f : Byte → Byte × Bool) (d : Byte) :
    Indistinct c (loopShift s f d) (loopShift (s.withMem m) f d) :=
  indistinct_ite (h.finish (f := id) fun _ _ => rfl)
    (h.modify encodable_pointer fun _ _ => MemoryBlind.then_setCnt (fun _ _ => rfl) _)

theorem Interchangeable.loopzero (h : Interchangeable c s m) :
    Indistinct c (execLoopzero s) (execLoopzero (s.withMem m)) :=
  indistinct_ite (h.finish (f := id) fun _ _ => rfl) (h.dwrite_then fun _ _ hu =>
    hu.finish (MemoryBlind.then_setCnt (f := fun u => { u with c := s.c - 1#8, b := s.b + 1#8 }) (fun _ _ => rfl)
      s.thisAddr))

end Accesses

/-! ### Every instruction -/

/-- The read operand of a row of the opcode table is encodable. -/
theorem encodable_of_readsThrough {i : Instr} {o : Operand} (hWf : i.wf = true) (ho : readsThrough i = some o) :
    o.Encodable := by
  rintro m rfl
  revert ho
  cases i with
  | setflagD | shlD | shrD | shlcD | shrcD | andMemD | xorMemD | orMemD | outD | reti | incD | inccD | incxD | incxcD
  | decD | deccD | decxD | decxcD | addMemD | addcMemD | subMemD | subcMemD | addAD | addcAD | subAD | subcAD | andAD
  | xorAD | orAD | ldAD | ldBD | ldCD | stacpD | stabD | stabpD =>
    rintro ⟨⟩
    exact of_decide_eq_true hWf
  | _ => nofun

/-- Every ordinary instruction of the opcode table, by the family that gives it its meaning. -/
theorem Interchangeable.runOrdinary {c : Config} {s : State} {m : Memory} (h : Interchangeable c s m) {i : Instr}
    (hWf : i.wf = true) : Indistinct c (runOrdinary i s) (runOrdinary i (s.withMem m)) := by
  have hRead {o : Operand} (ho : readsThrough i = some o) : o.Encodable := encodable_of_readsThrough hWf ho
  cases i with
  | rsv01At00 | rsv01From04 | rsv01At23 | rsv01From25 | rsv01From29 | rsv01From32 | rsv01From44 | rsv01At53
  | rsv01From55 | rsv01From59 | clear0 | clearK | rsv01From70 | loadOpt | saveOpt | rsv01AtC3 | rsv01FromC5
  | rsv01FromC9 | rsv01FromE2 | rsv01FromF4 | roopshlc | roopshrc | unused0F | rsv10At7E | rsv11At7E | unusable12
  | unusable13 | unusable14 | unusable15 | unusable16 | unusable17 | unusable18 | unusable19 | unusable1A
  | unusable1B | unused1C | rsv1FAt7F | rsv1FFrom80 | hardMacro | opmsb => exact indistinct_refused c _
  | nop | ldAB | ldBA | swap | ldBC | getpc | getmc | usermode | offset | getstat | clear1 | clc | disable | enable
  | outputb | ldAN | ldBN | ldCN | addAC | addcAC | subAC | subcAC | andAC | andAN | xorAC | xorAN | orAC | orAN =>
    exact ⟨h.agree, rfl⟩
  | setpc | setmc | int => exact indistinct_ite (indistinct_refused c _) ⟨h.agree, rfl⟩
  | getver | getid | cpuinfo | pmemacc => exact indistinct_ite ⟨h.agree, rfl⟩ (indistinct_refused c _)
  | inputa => exact h.finish memoryBlind_portIn_a
  | inout => exact h.finish memoryBlind_portOut_portIn_a
  | reti =>
    exact indistinct_ite (h.load (hRead rfl) fun _ _ _ => rfl) (indistinct_refused c _)
  | setflagD | setflagP | setflagX => exact h.setflag (hRead rfl)
  | stAD | stAX | stBD | zeroX | stCD | stCP | stCX | getflagD | getflagP | getflagX => exact h.store _ _
  | jmpM | jmpC0 | jmpC1 | jmpZ0 | jmpZ1 | jmpP | jmpX | jrFwd | jrB | jrBack | jrc0Fwd | jrc0B | jrc0Back | jrc1Fwd
  | jrc1B | jrc1Back | jrz0Fwd | jrz0B | jrz0Back | jrz1Fwd | jrz1B | jrz1Back => exact h.jumpIf _ _
  | balM | balC0 | balC1 | balZ0 | balZ1 | balP | balX | brFwd | brB | brBack | brc0Fwd | brc0B | brc0Back | brc1Fwd
  | brc1B | brc1Back | brz0Fwd | brz0B | brz0Back | brz1Fwd | brz1B | brz1Back => exact h.linkIf _ _
  | inD | inP | inX => exact h.inTo _
  | outD | outP | outX | addAD | addAX | addcAD | addcAX | subAD | subAX | subcAD | subcAX | andAD | andAX | xorAD
  | xorAX | orAD | orAX | ldAD | ldAP | ldAX | ldBD | ldBP | ldBX | ldCD | ldCP | ldCX =>
    exact h.load (hRead rfl) fun _ _ _ => rfl
  | shlD | shlP | shlX | shrD | shrP | shrX | shlcD | shlcP | shlcX | shrcD | shrcP | shrcX =>
    exact h.shiftMem (hRead rfl) _
  | andMemD | andMemP | andMemX | xorMemD | xorMemP | xorMemX | orMemD | orMemP | orMemX =>
    exact h.logicMem (hRead rfl) _
  | incD | incP | incX | inccD | inccP | inccX | addMemD | addMemP | addMemX | addcMemD | addcMemP | addcMemX | decD
  | decP | decX | deccD | deccP | deccX | subMemD | subMemP | subMemX | subcMemD | subcMemP | subcMemX =>
    exact h.arithMem (hRead rfl) _
  | incxD | incxP | incxX | incxcD | incxcP | incxcX | decxD | decxP | decxX | decxcD | decxcP | decxcX =>
    exact h.arithMemX (hRead rfl) _
  | stacpD | stacpP | stacpX | stabD | stac | stabX | stabpD | stzcp | stabpX =>
    exact h.copy (hRead rfl) fun _ _ => rfl
  | loopdecWait | loopdecFwd | loopdecBack | loopincFwd | loopincBack => exact h.loopTo _ _
  | loopdecB | loopincB => exact h.loopB _
  | loopshrc | loopshlc => exact h.loopShift _ _
  | loopzero => exact h.loopzero

/-- A word with bit 14 set: the end of millicode as the instruction it carries, the entry as a store (R301, R302). -/
theorem Interchangeable.macroWord {c : Config} {s : State} {m : Memory} (h : Interchangeable c s m) (op : BitVec 6)
    (xx : Byte) : Indistinct c (macroWord op xx s) (macroWord op xx (s.withMem m)) := by
  have hEnd : Indistinct c (macroEnd op xx s) (macroEnd op xx (s.withMem m)) :=
    indistinct_ite (indistinct_refused c _)
      (indistinct_mapNext (fun _ _ => rfl) (h.runOrdinary (isRow_decodeOp op xx).1))
  have hEntry : Indistinct c (macroEntry op xx s) (macroEntry op xx (s.withMem m)) :=
    h.dwrite_then fun _ _ hu => hu.finish (f := fun u =>
      { u.setMc ((op.setWidth 17 <<< 4) + s.cfg.macroBase) with c := xx, mf := true }) fun _ _ => rfl
  exact indistinct_ite (indistinct_refused c _) (indistinct_ite (indistinct_refused c _) (indistinct_ite hEnd hEntry))

theorem Interchangeable.execOpmsb {c : Config} {s : State} {m : Memory} (h : Interchangeable c s m) (mac : Bool)
    (op : BitVec 6) (xx : Byte) : Indistinct c (execOpmsb mac op xx s) (execOpmsb mac op xx (s.withMem m)) := by
  have hWord : Indistinct c (if mac then Machine.macroWord op xx s else Machine.runOrdinary (decodeOp op xx) s)
      (if mac then Machine.macroWord op xx (s.withMem m) else Machine.runOrdinary (decodeOp op xx) (s.withMem m)) :=
    indistinct_ite (h.macroWord op xx) (h.runOrdinary (isRow_decodeOp op xx).1)
  have hFast : Indistinct c (fastWord mac op xx s) (fastWord mac op xx (s.withMem m)) := by
    unfold fastWord
    iterate 4 refine indistinct_ite (indistinct_refused c _) ?_
    exact indistinct_mapNext (fun _ _ => rfl) hWord
  have hMode : (s.withMem m).cfg.opmsbMode = s.cfg.opmsbMode := rfl
  simp only [Machine.execOpmsb, hMode]
  cases s.cfg.opmsbMode with
  | none | debug | parity => exact indistinct_refused c _
  | fast => exact hFast

theorem Interchangeable.exec {c : Config} {s : State} {m : Memory} (h : Interchangeable c s m) {i : Instr}
    (hWf : i.wf = true) : Indistinct c (exec i s) (exec i (s.withMem m)) := by
  have hOrdinary := h.runOrdinary hWf
  cases i with
  | hardMacro op xx => exact h.macroWord op xx
  | opmsb mac op xx => exact h.execOpmsb mac op xx
  | _ => exact hOrdinary

/-- Settles O30: every access that is carried out is off the protected bytes, so the two runs read the same bytes, and
what an instruction does with them does not look at memory. -/
theorem userModeCannotReadProtected : Obligations.UserModeCannotReadProtected := by
  intro i s m hWf hMem hOther hUser hPA hAgree
  have h : Interchangeable s.cfg s m := ⟨rfl, hUser, hPA, hMem, hOther, hAgree⟩
  exact h.exec hWf

end Sys2Proof.Machine
end

section
/-! PROOFS. The millicode family (R300 to R306): entry and end, and the opmsb words. -/

namespace Sys2Proof

/-- The low `W` bits of a number, also where the 17 bits a counter is held in have cut the number first (R29). -/
theorem Config.wrap_ofNat (c : Config) (n : Nat) : c.wrap (BitVec.ofNat 17 n) = BitVec.ofNat 17 (n % 2 ^ c.width) := by
  have h := c.wrap_ofInt n
  rw [BitVec.ofInt_natCast] at h
  rw [h, ← BitVec.ofInt_natCast]
  push_cast
  rfl

/-- The four fields of a word, in numbers (R81). -/
theorem toNat_wordOf (msb mac : Bool) (op : BitVec 6) (xx : Byte) :
    (wordOf msb mac op xx).toNat = (128 * msb.toNat + 64 * mac.toNat + op.toNat) * 256 + xx.toNat := by
  rw [wordOf, toNat_append_eq_add, toNat_highByte]
  rfl

/-- The OP and the operand byte of an ordinary word are its own. -/
theorem encodeOp_inj {op op' : BitVec 6} {xx xx' : Byte} (h : encodeOp op xx = encodeOp op' xx') :
    op = op' ∧ xx = xx' := by
  have hNat := congrArg BitVec.toNat h
  rw [encodeOp_eq_wordOf, encodeOp_eq_wordOf, toNat_wordOf, toNat_wordOf] at hNat
  have hx := xx.isLt
  have hx' := xx'.isLt
  exact ⟨BitVec.eq_of_toNat_eq (by omega), BitVec.eq_of_toNat_eq (by omega)⟩

/-- A word with bit 15 or bit 14 set is no ordinary word. -/
theorem wordOf_ne_encodeOp {msb mac : Bool} (h : msb = true ∨ mac = true) (op op' : BitVec 6) (xx xx' : Byte) :
    wordOf msb mac op xx ≠ encodeOp op' xx' := by
  intro hEq
  have hNat := congrArg BitVec.toNat hEq
  rw [encodeOp_eq_wordOf, toNat_wordOf, toNat_wordOf] at hNat
  have hx := xx.isLt
  have hx' := xx'.isLt
  have hop := op'.isLt
  rcases h with rfl | rfl <;> simp only [Bool.toNat_true, Bool.toNat_false] at hNat <;> omega

end Sys2Proof

namespace Sys2Proof.Machine

/-! ### Words with bit 14 set -/

/-- Under MACRO_EXT the words with bit 13 clear are extended opcodes (R92). -/
theorem State.extended_iff (s : State) (op : BitVec 6) :
    s.extended op = true ↔ s.cfg.macroExt = true ∧ op.toNat < 32 := by
  have hBit : op.getLsbD 5 = decide (32 ≤ op.toNat) := op.msb_eq_getLsbD_last.symm.trans op.msb_eq_decide
  rw [State.extended, hBit]
  simp

theorem State.extended_eq_false {s : State} {op : BitVec 6} (h : s.cfg.macroExt = false ∨ 32 ≤ op.toNat) :
    s.extended op = false := by
  rw [Bool.eq_false_iff, ne_eq, s.extended_iff]
  rintro ⟨hExt, hLow⟩
  rcases h with h | h
  · simp [hExt] at h
  · omega

theorem macroWord_of_extended {s : State} {op : BitVec 6} (h : s.extended op = true) (xx : Byte) :
    macroWord op xx s = .refused .extendedOpcode :=
  if_pos h

/-- The address of a millicode entry, in numbers (R301). -/
theorem wrap_macroTarget (c : Config) (op : BitVec 6) :
    c.wrap ((op.setWidth 17 <<< 4) + c.macroBase) =
      BitVec.ofNat 17 ((op.toNat * 16 + c.macroBase.toNat) % 2 ^ c.width) := by
  have hop := op.isLt
  have hNat : (op.setWidth 17 <<< 4) + c.macroBase = BitVec.ofNat 17 (op.toNat * 16 + c.macroBase.toNat) := by
    refine BitVec.eq_of_toNat_eq ?_
    simp only [BitVec.toNat_add, BitVec.toNat_shiftLeft, BitVec.toNat_setWidth, BitVec.toNat_ofNat, Nat.shiftLeft_eq]
    omega
  rw [hNat, Config.wrap_ofNat]

/-- Outside an interrupt routine a word with bit 14 set that is no extended opcode is, with MF = 0, an entry (R301). -/
theorem exec_hardMacro_entry {s : State} {op : BitVec 6} (hMF : s.mf = false) (hInt : s.inInt = false)
    (hWord : s.cfg.macroExt = false ∨ 32 ≤ op.toNat) (hWrite : s.writable (.direct 0#7)) (xx : Byte) :
    exec (.hardMacro op xx) s = .next { s.afterWrite (.direct 0#7) xx with
      c := xx
      mc := BitVec.ofNat 17 ((op.toNat * 16 + s.cfg.macroBase.toNat) % 2 ^ s.cfg.width)
      mf := true
      pa := false } := by
  have hTarget : (s.afterWrite (.direct 0#7) xx).cfg.wrap ((op.setWidth 17 <<< 4) + s.cfg.macroBase) =
      BitVec.ofNat 17 ((op.toNat * 16 + s.cfg.macroBase.toNat) % 2 ^ s.cfg.width) := by
    rw [State.afterWrite_cfg, wrap_macroTarget]
  refine macroWord_next.2 ⟨State.extended_eq_false hWord, hInt, ?_⟩
  rw [hMF, if_neg (by decide), macroEntry_next.2 ⟨hWrite, rfl⟩, State.setMc, hTarget]

/-! ### The ordinary instruction below the bits -/

/-- An instruction with an ordinary word runs as an ordinary instruction. -/
theorem exec_of_encode {i : Instr} {op : BitVec 6} {xx : Byte} (h : encode i = encodeOp op xx) (s : State) :
    exec i s = runOrdinary i s := by
  cases i with
  | hardMacro op' xx' => exact absurd h (wordOf_ne_encodeOp (msb := false) (mac := true) (.inr rfl) op' op xx' xx)
  | opmsb mac op' xx' => exact absurd h (wordOf_ne_encodeOp (msb := true) (mac := mac) (.inl rfl) op' op xx' xx)
  | _ => rfl

theorem exec_decodeOp (op : BitVec 6) (xx : Byte) (s : State) :
    exec (decodeOp op xx) s = runOrdinary (decodeOp op xx) s :=
  exec_of_encode (isRow_decodeOp op xx).2 s

/-- OP 10 to 1B, 1F, 38, 39 and INT k, in numbers (R302). -/
theorem transfersControl_iff (op : BitVec 6) (xx : Byte) : transfersControl op xx = true ↔
    (0x10 ≤ op.toNat ∧ op.toNat ≤ 0x1B) ∨ op.toNat = 0x1F ∨ op.toNat = 0x38 ∨ op.toNat = 0x39 ∨
      (op.toNat = 0x01 ∧ 0xD0 ≤ xx.toNat ∧ xx.toNat ≤ 0xDF) := by
  simp only [transfersControl, Bool.or_eq_true, Bool.and_eq_true, decide_eq_true_eq, BitVec.le_def, ← BitVec.toNat_inj,
    BitVec.toNat_ofNat, Nat.reducePow, Nat.reduceMod]
  tauto

section EndWord

variable {s : State} {op : BitVec 6} {xx : Byte} (hMF : s.mf = true) (hInt : s.inInt = false)
  (hWord : s.cfg.macroExt = false ∨ 32 ≤ op.toNat)
include hMF hInt hWord

theorem exec_hardMacro_eq_macroEnd : exec (.hardMacro op xx) s = macroEnd op xx s := by
  change macroWord op xx s = _
  simp [macroWord, State.extended_eq_false hWord, hInt, hMF]

/-- A millicode end word that may end millicode runs its ordinary instruction, then clears MF (R302). -/
theorem exec_hardMacro_end (h : transfersControl op xx = false) :
    exec (.hardMacro op xx) s = mapNext (fun t => { t with mf := false }) (exec (decodeOp op xx) s) := by
  rw [exec_hardMacro_eq_macroEnd hMF hInt hWord, exec_decodeOp, macroEnd, h, if_neg (by decide)]

end EndWord

/-! ### Words with bit 15 set -/

/-- How the FAST opmsb takes a row of the opcode table: it refuses the writers of B and the steppers of B by OP and
operand byte, and what it refuses beyond those is refused anyway (R306). -/
inductive OpmsbClass (op : BitVec 6) (xx : Byte) (i : Instr) : Prop where
  | writer (hi : i.assignsB = true) (hi' : i.stepsB = false) (hw : writesB op xx = true)
  | stepper (hi : i.assignsB = false) (hi' : i.stepsB = true) (hw : writesB op xx = false) (hs : stepsB op = true)
  | neither (hi : i.assignsB = false) (hi' : i.stepsB = false) (hw : writesB op xx = false) (hs : stepsB op = false)
  | refused (hi : i.assignsB = false) (hi' : i.stepsB = false) (r : Refusal) (hr : Refuses i r)

theorem opmsbClass_of_encode {i : Instr} {op : BitVec 6} {xx : Byte} (h : encode i = encodeOp op xx) :
    OpmsbClass op xx i := by
  cases i with
  | hardMacro op' xx' => exact absurd h (wordOf_ne_encodeOp (msb := false) (mac := true) (.inr rfl) op' op xx' xx)
  | opmsb mac op' xx' => exact absurd h (wordOf_ne_encodeOp (msb := true) (mac := mac) (.inl rfl) op' op xx' xx)
  | rsv01At00 | rsv01From04 | rsv01At23 | rsv01From25 | rsv01From29 | rsv01From32 | rsv01From44 | rsv01At53
  | rsv01From55 | rsv01From59 | clear0 | clearK | rsv01From70 | loadOpt | saveOpt | rsv01AtC3 | rsv01FromC5
  | rsv01FromC9 | rsv01FromE2 | rsv01FromF4 | roopshlc | roopshrc | unused0F | rsv10At7E | rsv11At7E | unusable12
  | unusable13 | unusable14 | unusable15 | unusable16 | unusable17 | unusable18 | unusable19 | unusable1A
  | unusable1B | unused1C | rsv1FAt7F | rsv1FFrom80 => exact .refused rfl rfl _ fun _ => rfl
  | ldBA | swap | ldBC | getpc | getmc | ldBN | balM | balC0 | balC1 | balZ0 | balZ1 | balP | balX | brFwd | brB
  | brBack | brc0Fwd | brc0B | brc0Back | brc1Fwd | brc1B | brc1Back | brz0Fwd | brz0B | brz0Back | brz1Fwd | brz1B
  | brz1Back | incxD | incxP | incxX | incxcD | incxcP | incxcX | decxD | decxP | decxX | decxcD | decxcP | decxcX
  | ldBD | ldBP | ldBX =>
    obtain ⟨rfl, rfl⟩ := encodeOp_inj h
    exact .writer rfl rfl rfl
  | stacpD | stacpP | stacpX | stabpD | stabpX | stzcp | loopdecWait | loopdecFwd | loopshrc | loopdecB | loopdecBack
  | loopzero | loopincFwd | loopshlc | loopincB | loopincBack =>
    obtain ⟨rfl, rfl⟩ := encodeOp_inj h
    exact .stepper rfl rfl rfl rfl
  | usermode k | offset k | int k =>
    obtain ⟨rfl, rfl⟩ := encodeOp_inj h
    refine .neither rfl rfl ?_ rfl
    clear h
    revert k
    decide
  | _ =>
    obtain ⟨rfl, rfl⟩ := encodeOp_inj h
    exact .neither rfl rfl rfl rfl

/-- The word below bit 15. -/
def withoutOpmsb (mac : Bool) (op : BitVec 6) (xx : Byte) : Instr :=
  if mac then .hardMacro op xx else decodeOp op xx

section Fast

variable {s t : State} {mac : Bool} {op : BitVec 6} {xx : Byte}

/-- A completed word below bit 15, where it is no millicode entry, ran its ordinary instruction and at most cleared
MF. -/
theorem runOrdinary_of_withoutOpmsb (hEnd : mac = true → s.mf = true) (ht : exec (withoutOpmsb mac op xx) s = .next t) :
    ∃ u, runOrdinary (decodeOp op xx) s = .next u ∧ u.b = t.b := by
  cases mac with
  | false => exact ⟨t, (exec_decodeOp op xx s).symm.trans ht, rfl⟩
  | true =>
    obtain ⟨-, -, hRun⟩ := macroWord_next.1 ht
    rw [hEnd rfl, if_pos rfl] at hRun
    obtain ⟨-, u, hu, rfl⟩ := macroEnd_next.1 hRun
    exact ⟨u, hu, rfl⟩

variable (hFast : s.cfg.opmsbMode = .fast) (hEnd : mac = true → s.mf = true ∧ s.extended op = false)
include hFast hEnd

theorem exec_opmsb_of_fast : exec (.opmsb mac op xx) s =
    if writesB op xx then .refused .opmsbOnWriterOfB
    else if stepsB op then .refused .opmsbOnStepperOfB
    else mapNext (fun t => { t with b := t.b + 1#8 }) (exec (withoutOpmsb mac op xx) s) := by
  change execOpmsb mac op xx s = _
  cases mac with
  | false => simp [execOpmsb, hFast, fastWord, withoutOpmsb, exec_decodeOp]
  | true =>
    obtain ⟨hMF, hExt⟩ := hEnd rfl
    simp only [execOpmsb, hFast, fastWord, hMF, hExt, withoutOpmsb, if_true]
    rfl

theorem exec_opmsb_of_assignsB (h : (decodeOp op xx).assignsB = true) :
    exec (.opmsb mac op xx) s = .refused .opmsbOnWriterOfB := by
  rw [exec_opmsb_of_fast hFast hEnd]
  cases opmsbClass_of_encode (isRow_decodeOp op xx).2 with
  | writer _ _ hw => exact if_pos hw
  | stepper hi | neither hi | refused hi => simp [hi] at h

theorem exec_opmsb_of_stepsB (h : (decodeOp op xx).stepsB = true) :
    exec (.opmsb mac op xx) s = .refused .opmsbOnStepperOfB := by
  rw [exec_opmsb_of_fast hFast hEnd]
  cases opmsbClass_of_encode (isRow_decodeOp op xx).2 with
  | stepper _ _ hw hs => simp [hw, hs]
  | writer _ hi | neither _ hi | refused _ hi => simp [hi] at h

/-- With opmsb a word that leaves B alone completes as without, then adds 1 to the old B (R306). -/
theorem exec_opmsb_next (h : (decodeOp op xx).stepsOrWritesB = false) (ht : exec (withoutOpmsb mac op xx) s = .next t) :
    exec (.opmsb mac op xx) s = .next { t with b := BitVec.ofNat 8 (s.b.toNat + 1) } := by
  obtain ⟨u, hu, hub⟩ := runOrdinary_of_withoutOpmsb (fun hm => (hEnd hm).1) ht
  have hb : t.b = s.b := by
    by_contra hne
    obtain ⟨hFrame, -⟩ := writesTo_runOrdinary (decodeOp op xx) s u hu
    simp [hFrame.b_changed (hub ▸ hne)] at h
  rw [exec_opmsb_of_fast hFast hEnd, ht]
  cases opmsbClass_of_encode (isRow_decodeOp op xx).2 with
  | writer hi | stepper _ hi => simp [Instr.stepsOrWritesB, hi] at h
  | neither _ _ hw hs => simp [hw, hs, mapNext, hb, add_one_eq_ofNat]
  | refused _ _ r hr => rw [← exec_decodeOp, hr s] at hu; cases hu

theorem exec_opmsb_refused {r : Refusal} (hr : exec (withoutOpmsb mac op xx) s = .refused r) :
    ∃ r', exec (.opmsb mac op xx) s = .refused r' := by
  rw [exec_opmsb_of_fast hFast hEnd, hr]
  split
  · exact ⟨_, rfl⟩
  · split <;> exact ⟨_, rfl⟩

end Fast

/-- The word of ST [m:B],A (R145). -/
theorem decodeOp_stAX (m : BitVec 7) : decodeOp 0x06#6 (BitVec.ofNat 8 (128 + m.toNat)) = .stAX m := by
  rw [ofNat_add_toNat]
  exact byForm_indexed

theorem exec_stAX {s : State} {m : BitVec 7} (h : s.writable (.indexed m)) :
    exec (.stAX m) s = .next { s.afterWrite (.indexed m) s.a with pa := false } :=
  store_next.2 ⟨h, rfl⟩

theorem exec_opmsb_of_not_fast (s : State) (mac : Bool) (op : BitVec 6) (xx : Byte) :
    (s.cfg.opmsbMode = .none → exec (.opmsb mac op xx) s = .refused .opmsbWithoutRole) ∧
    (s.cfg.opmsbMode = .debug → exec (.opmsb mac op xx) s = .refused .opmsbDebugUndescribed) ∧
    (s.cfg.opmsbMode = .parity → exec (.opmsb mac op xx) s = .refused .parityRuleUnsupplied) := by
  change (_ → execOpmsb mac op xx s = _) ∧ (_ → execOpmsb mac op xx s = _) ∧ (_ → execOpmsb mac op xx s = _)
  simp +contextual [execOpmsb]

end Sys2Proof.Machine

namespace Sys2Proof

open Machine

/-- Settles O57, by the entry of millicode and the refusal of the extended opcodes. -/
theorem macroEntry : Obligations.MacroEntry :=
  ⟨fun _ _ xx hMF hInt hWord hWrite => exec_hardMacro_entry hMF hInt hWord hWrite xx,
    fun s op xx hExt hop => macroWord_of_extended ((s.extended_iff op).2 ⟨hExt, hop⟩) xx⟩

/-- Settles O58: the barred words are those of `transfersControl`, any other end word is its ordinary instruction but
for MF. -/
theorem macroEnd : Obligations.MacroEnd := by
  intro s op xx hMF hInt hWord barred
  have hEnd (h : transfersControl op xx = false) := exec_hardMacro_end hMF hInt hWord h
  refine ⟨fun hBarred => ?_, fun hFree => ?_, fun hNop => ?_⟩
  · rw [exec_hardMacro_eq_macroEnd hMF hInt hWord]
    exact if_pos ((transfersControl_iff op xx).2 hBarred)
  · have hNo : transfersControl op xx = false :=
      Bool.eq_false_iff.2 fun h => hFree ((transfersControl_iff op xx).1 h)
    rw [hEnd hNo]
    exact ⟨fun t ht => by rw [ht, mapNext], fun r hr => by rw [hr, mapNext]⟩
  · obtain rfl : op = 0#6 := BitVec.eq_of_toNat_eq hNop
    exact hEnd rfl

/-- Settles O59: a word with bit 15 is the word below it and a step of B, but where `fastWord` refuses it. -/
theorem opmsbWords : Obligations.OpmsbWords := by
  refine ⟨exec_opmsb_of_not_fast, fun s op xx hFast => ?_, fun s op xx hFast hWord => ⟨fun hMF => ?_, fun hMF => ?_⟩,
    fun s op xx hFast hExt hop => ?_, fun s xx hFast => ?_, fun s m hFast hWrite => ?_,
    fun s hFast hExt hMF hInt => ⟨fun xx => ?_, fun m hWrite => ?_⟩⟩
  case refine_1 =>
    have hEnd : false = true → s.mf = true ∧ s.extended op = false := nofun
    exact ⟨exec_opmsb_of_assignsB hFast hEnd, exec_opmsb_of_stepsB hFast hEnd, fun h =>
      ⟨fun t => exec_opmsb_next hFast hEnd h, fun r => exec_opmsb_refused hFast hEnd⟩⟩
  case refine_2 =>
    change execOpmsb true op xx s = _
    simp [execOpmsb, hFast, fastWord, State.extended_eq_false hWord, hMF]
  case refine_3 =>
    have hEnd (_ : true = true) : s.mf = true ∧ s.extended op = false := ⟨hMF, State.extended_eq_false hWord⟩
    exact ⟨exec_opmsb_of_assignsB hFast hEnd, exec_opmsb_of_stepsB hFast hEnd, fun h =>
      ⟨fun t => exec_opmsb_next hFast hEnd h, fun r => exec_opmsb_refused hFast hEnd⟩⟩
  case refine_4 =>
    change execOpmsb true op xx s = _
    simp [execOpmsb, hFast, fastWord, (s.extended_iff op).2 ⟨hExt, hop⟩]
  case refine_5 => exact exec_opmsb_next hFast nofun rfl (t := { s with pa := false }) rfl
  case refine_6 =>
    have hWord := decodeOp_stAX m
    refine exec_opmsb_next hFast nofun (by rw [hWord]; rfl) (t := { s.afterWrite (.indexed m) s.a with pa := false }) ?_
    rw [withoutOpmsb, if_neg (by decide), hWord, exec_stAX hWrite]
  case refine_7 =>
    refine exec_opmsb_next hFast (fun _ => ⟨hMF, State.extended_eq_false (.inl hExt)⟩) rfl
      (t := { s with mf := false, pa := false }) ?_
    exact exec_hardMacro_end hMF hInt (.inl hExt) rfl
  case refine_8 =>
    have hWord := decodeOp_stAX m
    refine exec_opmsb_next hFast (fun _ => ⟨hMF, State.extended_eq_false (.inl hExt)⟩) (by rw [hWord]; rfl)
      (t := { s.afterWrite (.indexed m) s.a with mf := false, pa := false }) ?_
    rw [withoutOpmsb, if_pos rfl, exec_hardMacro_end hMF hInt (.inl hExt) rfl, hWord, exec_stAX hWrite, mapNext]

end Sys2Proof
end

section
/-! PROOFS. The exceptions family (R312 to R325): the boundary that takes an interrupt, entry and vectors, the routine
in which none is taken, EF, the flag byte and RETI. -/

namespace Sys2Proof.Machine

/-! ### The flag byte (R31, R150) -/

/-- Where each flag stands in a byte of the flag layout. -/
theorem flagLayout (cf um mf zf : Bool) (ofs : BitVec 2) :
    let v : Byte := BitVec.ofBool cf ++ 0#2 ++ ofs ++ BitVec.ofBool um ++ BitVec.ofBool mf ++ BitVec.ofBool zf
    v.getLsbD 0 = zf ∧ v.getLsbD 1 = mf ∧ v.getLsbD 2 = um ∧ v.extractLsb' 3 2 = ofs ∧ v.getLsbD 7 = cf := by
  revert cf um mf zf ofs
  decide

/-- Bit 7 of the status byte is EF (R38). -/
theorem statusLayout_ef (ef tm ae : Bool) :
    (BitVec.ofBool ef ++ 0#5 ++ BitVec.ofBool tm ++ BitVec.ofBool ae : Byte).getLsbD 7 = ef := by
  revert ef tm ae
  decide

section FlagByte

variable (s : State)

theorem State.flagByte_bits : s.flagByte.getLsbD 0 = s.zf ∧ s.flagByte.getLsbD 1 = s.mf ∧
    s.flagByte.getLsbD 2 = s.userMode ∧ s.flagByte.extractLsb' 3 2 = s.ofs ∧ s.flagByte.getLsbD 7 = s.cf :=
  flagLayout s.cf s.userMode s.mf s.zf s.ofs

/-- Loading the flag byte of a state on the same core gives UF as that state reads it (R35). -/
theorem State.loadAllFlags_flagByte_userMode {t : State} (hCfg : t.cfg = s.cfg) :
    (t.loadAllFlags s.flagByte).userMode = s.userMode := by
  obtain ⟨-, -, hUM, -, -⟩ := s.flagByte_bits
  rw [State.userMode, State.loadAllFlags_cfg, State.loadAllFlags_uf, hUM, hCfg, State.userMode]
  cases s.cfg.hasUserMode <;> simp

end FlagByte

/-- OF stands in bits 3 and 4 of the flag byte. -/
theorem extractLsb'_three_two (v : Byte) : v.extractLsb' 3 2 = BitVec.ofNat 2 (v.toNat / 8) := by
  refine BitVec.eq_of_toNat_eq ?_
  simp [Nat.shiftRight_eq_div_pow]

/-! ### RETI -/

/-- In an interrupt routine the direct form addresses data address m itself, OF counting as 0 (R33, R84). -/
theorem State.ea_direct_of_inInt {s : State} (h : s.inInt = true) (m : BitVec 7) :
    (s.ea (.direct m)).toNat = m.toNat := by
  rw [(effectiveAddresses s m).1, if_pos h, Nat.zero_add]

/-- An exec that answers a next state leaves EF but for ENABLE and DISABLE (R315). -/
theorem exec_ef {i : Instr} {s t : State} (h : exec i s = .next t) (hEnable : i.carried ≠ .enable)
    (hDisable : i.carried ≠ .disable) : t.ef = s.ef := by
  by_contra hne
  exact ((statusTo_exec i s t h).ef_changed hne).elim hEnable hDisable

end Sys2Proof.Machine

namespace Sys2Proof

open Machine

/-- Settles O9: the boundary takes number 0 where INT0 requests, else number 15. -/
theorem boundaryTakesInterrupt : Obligations.BoundaryTakesInterrupt := by
  refine fun s hW hIF hEF => ⟨fun hInt0 => ?_, fun hInt0 hReq => ?_⟩
  · rw [step_of_request hIF hEF (.inl hInt0), if_pos hInt0, State.enterInterrupt_eq (by rwa [State.sampleLines_cfg])]
    rfl
  · rw [step_of_request hIF hEF (.inr hReq), hInt0, if_neg (by decide),
      State.enterInterrupt_eq (by rwa [State.sampleLines_cfg])]
    rfl

/-- Settles O10: IF masks every request, and RETI clears it. -/
theorem noNestedInterrupt : Obligations.NoNestedInterrupt := by
  refine ⟨fun s hIF => ?_, fun s t m ht hEF hReq => ?_⟩
  · exact step_of_none_pending (State.pendingInterrupt_of_inInt (s.sampleLines_inInt.trans hIF))
  · obtain ⟨-, -, rfl⟩ := execReti_next.1 ht
    exact ⟨_, step_of_request rfl hEF hReq⟩

/-- Settles O11, by the numbers of the vectors, which a counter of 9 bits holds. -/
theorem interruptEntryAndVectors : Obligations.InterruptEntryAndVectors := by
  refine ⟨toNat_vector, fun s k hW => ⟨State.enterInterrupt_eq hW k, ?_⟩⟩
  rw [State.cnt_of_inInt (s.enterInterrupt_inInt k), State.enterInterrupt_ic, wrap_vector hW, ← toNat_vector,
    BitVec.ofNat_toNat, BitVec.setWidth_eq]

/-- Settles O21, by what ENABLE, DISABLE and GETSTAT write and the frame of every other instruction. -/
theorem enableFlagWriters : Obligations.EnableFlagWriters := by
  refine ⟨fun s t ht => ?_, fun s t ht => ?_, fun s t ht => ?_, fun i s t ht => exec_ef ht,
    fun s k => s.enterInterrupt_ef k, fun s v hIF => State.pendingInterrupt_of_inInt hIF⟩
  · rw [execEnable_next.1 ht]
  · have hDisable : t = { s with ef := false, pa := false } := finish_next.1 ht
    rw [hDisable]
  · have hGetstat : t = { s with a := s.statusByte, pa := false } := finish_next.1 ht
    rw [hGetstat]
    exact ⟨statusLayout_ef s.ef s.tm s.accessError, rfl⟩

/-- Settles O13: each flag stands in the bit of the flag byte it is loaded from. -/
theorem flagByteRoundTrip : Obligations.FlagByteRoundTrip := by
  intro s t hCfg
  obtain ⟨hZF, hMF, -, hOF, hCF⟩ := s.flagByte_bits
  have hUM := s.loadAllFlags_flagByte_userMode hCfg
  refine ⟨hZF, hMF, hUM, hOF, hCF, ?_⟩
  rw [State.flagByte, hUM, State.loadAllFlags_cf, State.loadAllFlags_ofs, State.loadAllFlags_mf, State.loadAllFlags_zf,
    hCF, hOF, hMF, hZF, State.flagByte]

/-- Settles O40: in a routine RETI is a load through its direct operand, whose address OF leaves out. -/
theorem returnFromInterrupt : Obligations.ReturnFromInterrupt := by
  intro s m p v
  have hPhys (hIF : s.inInt = true) : s.phys (s.ea (.direct m)) = p := by
    rw [State.phys, State.ea_direct_of_inInt hIF]
  refine ⟨fun hIF => ?_, fun hIF hOut => ?_, fun hIF hIn => ?_⟩
  · change (if s.inInt then load _ _ _ else _) = _
    rw [hIF, if_neg (by decide)]
  · change (if s.inInt then load _ _ _ else _) = _
    have hRead := State.dread_outside (s.restricted_direct m) (by rwa [hPhys hIF])
    rw [hIF, if_pos rfl, load, hRead, hPhys hIF]
    rfl
  · have hByte : s.byteAt (.direct m) = v := by rw [State.byteAt, s.restricted_direct, if_neg (by decide), hPhys hIF]
    have hAfter : s.afterRead (.direct m) = s := by rw [State.afterRead, s.restricted_direct, if_neg (by decide)]
    refine ⟨_, execReti_next.2 ⟨hIF, .inr (by rwa [hPhys hIF]), rfl⟩, ?_, ?_⟩
    · rw [hByte, hAfter, ← extractLsb'_three_two]
      rfl
    · rw [hByte, hAfter]
      simp [State.cnt]

end Sys2Proof
end

section
/-! PROOFS. Memory as an array (R56, R65), and the transfers of the single registers: counters (R106 to R109), status
and optional registers (R110 to R120), ports (R124 to R126, R210, R211), flags (R143, R150), stores (R145 to R149), with
the control state after reset (D1). -/

namespace Sys2Proof.Machine

/-! ### Memory as an array -/

/-- Two memories in canonical form that list the same bytes are the same list. -/
theorem Memory.ext_get? {m m' : Memory} (hm : m.wf) (hm' : m'.wf) (h : ∀ p, m.get? p = m'.get? p) : m = m' := by
  induction m generalizing m' with
  | nil =>
    cases m' with
    | nil => rfl
    | cons e' m' => simpa [Memory.get?] using h e'.1
  | cons e m ih =>
    obtain ⟨a, v⟩ := e
    cases m' with
    | nil => simpa [Memory.get?] using h a
    | cons e' m' =>
      obtain ⟨a', v'⟩ := e'
      obtain ⟨ha, hTail⟩ := List.pairwise_cons.1 hm
      obtain ⟨ha', hTail'⟩ := List.pairwise_cons.1 hm'
      have hAddr : a = a' := by
        rcases Nat.lt_trichotomy a a' with hlt | heq | hgt
        · simpa [Memory.get?, hlt, hlt.ne] using h a
        · exact heq
        · simpa [Memory.get?, hgt, hgt.ne] using h a'
      subst hAddr
      have hByte : v = v' := by simpa [Memory.get?] using h a
      subst hByte
      have hRest : m = m' := by
        refine ih hTail hTail' fun p => ?_
        by_cases hp : p ≤ a
        · rw [Memory.get?_below p fun e he => hp.trans_lt (ha e.1 (List.mem_map_of_mem he)),
            Memory.get?_below p fun e he => hp.trans_lt (ha' e.1 (List.mem_map_of_mem he))]
        · have hne : p ≠ a := by omega
          have hnlt : ¬ p < a := by omega
          simpa [Memory.get?, hne, hnlt] using h p
      rw [hRest]

/-- What is listed after a write. -/
theorem Memory.get?_set {m : Memory} (hm : m.wf) (p q : Nat) (v : Byte) :
    (m.set p v).get? q = if q = p then some v else m.get? q := by
  by_cases h : q = p
  · rw [h, if_pos rfl, Memory.get?_set_same]
  · rw [if_neg h, Memory.get?_set_other hm v h]

/-- A second write to an address overrides the first. -/
theorem Memory.set_set {m : Memory} (hm : m.wf) (p : Nat) (v w : Byte) : (m.set p v).set p w = m.set p w := by
  have hv := Memory.set_wf hm p v
  refine Memory.ext_get? (Memory.set_wf hv p w) (Memory.set_wf hm p w) fun r => ?_
  rw [Memory.get?_set hv, Memory.get?_set hm, Memory.get?_set hm]
  split <;> rfl

/-- Writes to two addresses commute. -/
theorem Memory.set_comm {m : Memory} (hm : m.wf) {p q : Nat} (h : q ≠ p) (v w : Byte) :
    (m.set p v).set q w = (m.set q w).set p v := by
  have hp := Memory.set_wf hm p v
  have hq := Memory.set_wf hm q w
  refine Memory.ext_get? (Memory.set_wf hp q w) (Memory.set_wf hq p v) fun r => ?_
  rw [Memory.get?_set hp, Memory.get?_set hm, Memory.get?_set hq, Memory.get?_set hm]
  by_cases hr : r = q
  · rw [if_pos hr, if_neg (hr ▸ h), if_pos hr]
  · rw [if_neg hr, if_neg hr]

/-- Settles O16: memories in canonical form are the lists of what they hold. -/
theorem memoryIsAnArray : Obligations.MemoryIsAnArray := by
  refine fun m p v hm =>
    ⟨Memory.set_wf hm p v, fun q => ?_, Memory.set_set hm p v, fun q w h => Memory.set_comm hm h v w⟩
  split
  · next hq => rw [hq, Memory.read_set_same]
  · next hq => exact Memory.read_set_other hm v hq

/-! ### Counters -/

/-- The bytes of a 16-bit number, in numbers (R21). -/
theorem State.setAB_of_toNat (s : State) {v : Addr} {n : Nat} (h : v.toNat = n % 65536) :
    s.setAB v = { s with a := BitVec.ofNat 8 (n / 256), b := BitVec.ofNat 8 n } := by
  have hA : highByte v = BitVec.ofNat 8 (n / 256) := by
    refine BitVec.eq_of_toNat_eq ?_
    simp only [highByte, BitVec.extractLsb'_toNat, BitVec.toNat_ofNat, Nat.shiftRight_eq_div_pow]
    omega
  have hB : lowByte v = BitVec.ofNat 8 n := by
    refine BitVec.eq_of_toNat_eq ?_
    simp only [lowByte, BitVec.extractLsb'_toNat, BitVec.toNat_ofNat, Nat.shiftRight_eq_div_pow]
    omega
  rw [State.setAB, hA, hB]

/-- The number GETPC and GETMC move (R106). -/
theorem State.toNat_counterWord (s : State) (v : Counter) :
    (s.counterWord v).toNat = (if s.cfg.pcXferShift then v.toNat / 2 else v.toNat) % 65536 := by
  unfold State.counterWord
  split
  · rw [BitVec.toNat_setWidth, BitVec.toNat_ushiftRight, Nat.shiftRight_eq_div_pow]
  · exact BitVec.toNat_setWidth 16 v

/-- A counter register moved to A and B, in numbers (R106, R107). -/
theorem completes_counterWord {i : Instr} {r : State → Counter}
    (h : ∀ s, exec i s = finish (s.setAB (s.counterWord (r s)))) : Completes i fun s =>
      let v := if s.cfg.pcXferShift then (r s).toNat / 2 else (r s).toNat
      { s with a := BitVec.ofNat 8 (v / 256), b := BitVec.ofNat 8 v } := by
  intro s
  rw [h, State.setAB_of_toNat s (s.toNat_counterWord (r s)), finish]

/-- The number SETPC and SETMC write, before it is wrapped (R108). -/
theorem State.wordCounter_eq (s : State) :
    s.wordCounter = BitVec.ofNat 17 (if s.cfg.pcXferShift then 2 * s.abNat else s.abNat) := by
  unfold State.wordCounter
  split
  · rw [wordTarget_eq, toNat_pair, State.abNat, ← BitVec.ofInt_natCast]
    push_cast
    rfl
  · refine BitVec.eq_of_toNat_eq ?_
    rw [BitVec.toNat_setWidth, toNat_pair, BitVec.toNat_ofNat, State.abNat]

/-- Bit 0 of a counter is the parity of the number it was formed from. -/
theorem getLsbD_zero_ofNat (n : Nat) : (BitVec.ofNat 17 n).getLsbD 0 = decide (n % 2 = 1) := by
  rw [BitVec.getLsbD_ofNat, Nat.testBit_zero, decide_eq_true (by decide : 0 < 17), Bool.true_and]

section SetCounter

variable {s : State} {n : Nat} (h : s.wordCounter = BitVec.ofNat 17 n)
include h

/-- SETPC and SETMC write an even number, modulo `2^W` (R108, R109). -/
theorem setCounters_of_even (hEven : n % 2 = 0) :
    exec .setpc s = .next { s with pc := BitVec.ofNat 17 (n % 2 ^ s.cfg.width), pa := false } ∧
      exec .setmc s = .next { s with mc := BitVec.ofNat 17 (n % 2 ^ s.cfg.width), pa := false } := by
  have hBit : s.wordCounter.getLsbD 0 = false := by rw [h, getLsbD_zero_ofNat, hEven]; rfl
  change execSetpc s = _ ∧ execSetmc s = _
  rw [execSetpc, execSetmc, hBit, if_neg (by decide), if_neg (by decide), h, State.setPc, State.setMc,
    Config.wrap_ofNat]
  exact ⟨rfl, rfl⟩

/-- They refuse an odd one (R52). -/
theorem setCounters_of_odd (hOdd : n % 2 = 1) :
    exec .setpc s = .refused (.oddCounter (BitVec.ofNat 17 n)) ∧
      exec .setmc s = .refused (.oddCounter (BitVec.ofNat 17 n)) := by
  have hBit : s.wordCounter.getLsbD 0 = true := by rw [h, getLsbD_zero_ofNat, hOdd]; rfl
  change execSetpc s = _ ∧ execSetmc s = _
  rw [execSetpc, execSetmc, hBit, if_pos rfl, if_pos rfl, h]
  exact ⟨rfl, rfl⟩

end SetCounter

/-- Settles O35, by the numbers of the words moved and of the counters formed. -/
theorem counterTransfers : Obligations.CounterTransfers := by
  refine ⟨completes_counterWord fun _ => rfl, completes_counterWord fun _ => rfl, fun s hShift => ?_,
    fun s hShift hEven => ?_, fun s hShift hOdd => ?_⟩
  · exact setCounters_of_even (by rw [s.wordCounter_eq, hShift, if_pos rfl]) (Nat.mul_mod_right 2 _)
  · exact setCounters_of_even (by rw [s.wordCounter_eq, hShift, if_neg (by decide)]) hEven
  · exact setCounters_of_odd (by rw [s.wordCounter_eq, hShift, if_neg (by decide)]) hOdd

/-! ### Status and optional registers -/

/-- The status byte, in numbers (R38, R112). -/
theorem State.statusByte_eq (s : State) : s.statusByte =
    BitVec.ofNat 8 (128 * s.ef.toNat + 2 * s.tm.toNat + (s.cfg.hasUserMode && s.ae).toNat) := by
  rw [State.statusByte, State.accessError]
  generalize s.ef = ef, s.tm = tm, (s.cfg.hasUserMode && s.ae) = ae
  revert ef tm ae
  decide

/-- A write to UF is one on a core with user mode and nothing on one without (R35, D35). -/
theorem State.setUF_eq (s : State) (v : Bool) : s.setUF v = if s.cfg.hasUserMode then { s with uf := v } else s := by
  unfold State.setUF
  split <;> rfl

theorem getLsbD_zero_eq_decide (k : BitVec 1) : k.getLsbD 0 = decide (k = 1#1) := by
  revert k
  decide

/-- Settles O34: each is one assignment before the common end. -/
theorem modeAndStatus : Obligations.ModeAndStatus := by
  refine ⟨fun _ _ => rfl, fun k s => ?_, fun s => ?_, fun _ => rfl⟩
  · change finish (s.setUF (k.getLsbD 0)) = _
    rw [State.setUF_eq, getLsbD_zero_eq_decide, finish]
  · change finish { s with a := s.statusByte } = _
    rw [State.statusByte_eq, finish]

/-- Settles O36: each asks for its option first. -/
theorem optionalInstructions : Obligations.OptionalInstructions :=
  ⟨fun _ h => ⟨if_pos h, if_pos h, if_pos h⟩,
    fun _ h => ⟨if_neg (by simp [h]), if_neg (by simp [h]), if_neg (by simp [h])⟩,
    fun _ h => if_pos h, fun _ h => if_neg (by simp [h])⟩

/-- Settles O19, by the values of reset; EF = 0 lets nothing be pending. -/
theorem resetControlState : Obligations.ResetControlState := by
  intro c s
  have hPending : s.sampleLines.pendingInterrupt = none := State.pendingInterrupt_of_disabled s.sampleLines_ef
  exact ⟨rfl, rfl, rfl, rfl, rfl, rfl, rfl, rfl, rfl, rfl, rfl, rfl, rfl, hPending⟩

/-! ### Stores and flags -/

/-- An instruction whose meaning is `store` does nothing else (R145). -/
theorem stores_of_exec_eq_store {i : Instr} {o : Operand} {f : State → Byte} (h : ∀ s, exec i s = store s o (f s)) :
    Stores i o f :=
  fun s hWrite => (h s).trans (store_next.2 ⟨hWrite, rfl⟩)

/-- Settles O41: each is one store. -/
theorem storesOfRegisters : Obligations.StoresOfRegisters :=
  ⟨fun _ => stores_of_exec_eq_store fun _ => rfl, fun _ => stores_of_exec_eq_store fun _ => rfl,
    fun _ => stores_of_exec_eq_store fun _ => rfl, fun _ => stores_of_exec_eq_store fun _ => rfl,
    fun _ => stores_of_exec_eq_store fun _ => rfl, stores_of_exec_eq_store fun _ => rfl,
    fun _ => stores_of_exec_eq_store fun _ => rfl⟩

/-- The flag byte, in numbers (R31, R150). -/
theorem State.flagByte_eq (s : State) : s.flagByte =
    BitVec.ofNat 8 (128 * s.cf.toNat + 8 * s.ofs.toNat + 4 * s.userMode.toNat + 2 * s.mf.toNat + s.zf.toNat) := by
  rw [State.flagByte]
  generalize s.cf = cf, s.ofs = ofs, s.userMode = um, s.mf = mf, s.zf = zf
  revert cf ofs um mf zf
  decide

/-- The flags SETFLAG loads after its read (R143). -/
theorem State.afterRead_loadFlags (s : State) (o : Operand) (v : Byte) : (s.afterRead o).loadFlags v =
    { s.afterRead o with
      zf := v.getLsbD 0
      uf := if s.cfg.hasUserMode then v.getLsbD 2 else s.uf
      ofs := BitVec.ofNat 2 (v.toNat / 8)
      cf := v.getLsbD 7 } := by
  have hUF : (if (s.afterRead o).cfg.hasUserMode then v.getLsbD 2 else (s.afterRead o).uf) =
      if s.cfg.hasUserMode then v.getLsbD 2 else s.uf := by
    rw [State.afterRead_cfg, State.afterRead_uf]
  rw [State.loadFlags, State.setUF, hUF, extractLsb'_three_two]

section Setflag

variable {s : State} {o : Operand} (hRead : s.readable o)
include hRead

theorem setflag_of_mf_eq (hMF : (s.byteAt o).getLsbD 1 = s.mf) : setflag s o = .next { s.afterRead o with
    zf := (s.byteAt o).getLsbD 0
    uf := if s.cfg.hasUserMode then (s.byteAt o).getLsbD 2 else s.uf
    ofs := BitVec.ofNat 2 ((s.byteAt o).toNat / 8)
    cf := (s.byteAt o).getLsbD 7
    pa := false } := by
  rw [setflag, State.dread_of_readable hRead, Res.andThen, if_pos hMF, State.afterRead_loadFlags, finish]

theorem setflag_of_mf_ne (hMF : (s.byteAt o).getLsbD 1 ≠ s.mf) : setflag s o = .refused .setflagChangesMf := by
  rw [setflag, State.dread_of_readable hRead, Res.andThen, if_neg hMF]

end Setflag

/-- Settles O39: GETFLAG is a store of the flag byte, SETFLAG a read and, with MF as it is, a load of the other
flags. -/
theorem flagTransfers : Obligations.FlagTransfers := by
  have hGet {i : Instr} {o : Operand} (h : ∀ s, exec i s = store s o s.flagByte) :=
    stores_of_exec_eq_store fun s => (State.flagByte_eq s) ▸ h s
  exact ⟨⟨fun _ => hGet fun _ => rfl, hGet fun _ => rfl, fun _ => hGet fun _ => rfl⟩,
    fun _ _ hRead => ⟨setflag_of_mf_eq hRead, setflag_of_mf_ne hRead⟩,
    fun _ hRead => ⟨setflag_of_mf_eq hRead, setflag_of_mf_ne hRead⟩,
    fun _ _ hRead => ⟨setflag_of_mf_eq hRead, setflag_of_mf_ne hRead⟩⟩

/-! ### Ports -/

/-- A port input takes the next byte of the environment and records it (R64). -/
theorem State.portIn_eq (s : State) (port : Byte) : s.portIn port = (s.nextInput, s.afterInput port) := by
  unfold State.portIn State.afterInput State.nextInput
  cases s.portScript <;> rfl

/-- IN reads the port first, which moves nothing that its write depends on (R210). -/
theorem inTo_of_writable {s : State} {o : Operand} (h : s.writable o) :
    inTo s o = .next { (s.afterInput s.c).afterWrite o s.nextInput with pa := false } := by
  rw [inTo, State.portIn_eq]
  exact store_next.2 ⟨h, rfl⟩

/-- An instruction whose meaning is `outFrom` reads its operand and puts it out on port C, which the read leaves
(R211). -/
theorem reads_of_exec_eq_outFrom {i : Instr} {o : Operand} (h : ∀ s, exec i s = outFrom s o) :
    Reads i o fun s v t => { t with events := t.events ++ [.output s.c v] } :=
  reads_of_exec_eq_load h

/-- Settles O38, by the input the port presents, and IN and OUT as one store and one load. -/
theorem portTransfers : Obligations.PortTransfers := by
  refine ⟨fun s => ?_, fun s => rfl, fun s => ?_, ⟨?_, ?_, ?_⟩, ⟨?_, ?_, ?_⟩⟩
  · change finish { (s.portIn s.c).2 with a := (s.portIn s.c).1 } = _
    rw [State.portIn_eq, finish]
  · change finish { ((s.portOut s.c s.b).portIn s.c).2 with a := ((s.portOut s.c s.b).portIn s.c).1 } = _
    rw [State.portIn_eq, finish]
    rfl
  · exact fun _ _ => inTo_of_writable
  · exact fun _ => inTo_of_writable
  · exact fun _ _ => inTo_of_writable
  · exact fun _ => reads_of_exec_eq_outFrom fun _ => rfl
  · exact reads_of_exec_eq_outFrom fun _ => rfl
  · exact fun _ => reads_of_exec_eq_outFrom fun _ => rfl

end Sys2Proof.Machine
end

section
/-! PROOFS. The step at a boundary that takes no interrupt: the two bytes fetched, the fetch refused, the instruction
run (R26, R50 to R54, R306, R316), and the sample words of the spec. -/

namespace Sys2Proof.Machine

/-! ### The quiet boundary -/

/-- Where nothing requests, nothing is pending (R316). -/
theorem State.pendingInterrupt_of_no_request {s : State}
    (h : s.lines.int0 = false ∧ s.lines.int1 = false ∧ s.accessError = false) : s.pendingInterrupt = none := by
  obtain ⟨hInt0, hInt1, hAE⟩ := h
  simp [State.pendingInterrupt, hInt0, hInt1, hAE]

/-- In a routine, with EF = 0, or with no request, the step fetches and runs (R316). -/
theorem step_of_quiet {s : State} (h : s.inInt = true ∨ s.ef = false ∨
      (s.sampleLines.lines.int0 = false ∧ s.sampleLines.lines.int1 = false ∧ s.accessError = false)) :
    step s = s.sampleLines.fetchInstr.andThen exec := by
  refine step_of_none_pending ?_
  rcases h with hIF | hEF | hQuiet
  · exact State.pendingInterrupt_of_inInt (s.sampleLines_inInt.trans hIF)
  · exact State.pendingInterrupt_of_disabled (s.sampleLines_ef.trans hEF)
  · exact State.pendingInterrupt_of_no_request (by rwa [State.sampleLines_accessError])

@[simp] theorem State.sampleLines_cnt (s : State) : s.sampleLines.cnt = s.cnt := by
  simp [State.cnt]

/-! ### The fetch -/

/-- Bit 0 of a counter is its parity. -/
theorem getLsbD_zero_counter (v : Counter) : v.getLsbD 0 = decide (v.toNat % 2 = 1) := by
  rw [← getLsbD_zero_ofNat, BitVec.ofNat_toNat, BitVec.setWidth_eq]

section Fetch

variable {s : State}

/-- An odd counter is refused before any byte is read (R52). -/
theorem State.fetch_of_odd (h : s.cnt.toNat % 2 = 1) : s.fetch = .refused (.oddCounter s.cnt) :=
  if_pos (by rw [getLsbD_zero_counter, decide_eq_true h])

variable (hEven : s.cnt.toNat % 2 = 0)
include hEven

theorem State.getLsbD_zero_cnt_of_even : s.cnt.getLsbD 0 = false := by
  rw [getLsbD_zero_counter, hEven]
  rfl

/-- The second byte of a word lies behind the first, modulo `2^W`; no even counter of 17 bits overflows there (R26). -/
theorem State.toNat_second_of_even :
    (s.cfg.wrap (s.cnt + 1#17)).toNat = (s.cnt.toNat + 1) % 2 ^ s.cfg.width := by
  have hCnt := s.cnt.isLt
  have hSum : (s.cnt + 1#17).toNat = s.cnt.toNat + 1 := by
    rw [BitVec.toNat_add, BitVec.toNat_ofNat]
    omega
  have hFits : (s.cnt.toNat + 1) % 2 ^ s.cfg.width < 2 ^ 17 := (Nat.mod_le _ _).trans_lt (by omega)
  rw [Config.wrap, hSum, BitVec.toNat_ofNat, Nat.mod_eq_of_lt hFits]

theorem State.fetch_of_first_outside (h : s.cfg.memBytes ≤ s.cnt.toNat) :
    s.fetch = .refused (.fetchOutsideMemory s.cnt.toNat) := by
  rw [State.fetch, State.getLsbD_zero_cnt_of_even hEven, if_neg (by decide), if_pos h]

variable (hFirst : s.cnt.toNat < s.cfg.memBytes)
include hFirst

theorem State.fetch_of_second_outside (h : s.cfg.memBytes ≤ (s.cnt.toNat + 1) % 2 ^ s.cfg.width) :
    s.fetch = .refused (.fetchOutsideMemory ((s.cnt.toNat + 1) % 2 ^ s.cfg.width)) := by
  rw [← State.toNat_second_of_even hEven] at h ⊢
  rw [State.fetch, State.getLsbD_zero_cnt_of_even hEven, if_neg (by decide), if_neg (by omega), if_pos h]

/-- Both bytes of an even counter installed, the fetch answers them and the counter moves past the word (R26, R54). -/
theorem State.fetch_of_installed (hSecond : (s.cnt.toNat + 1) % 2 ^ s.cfg.width < s.cfg.memBytes) :
    s.fetch = .ok (s.mem.read s.cnt.toNat, s.mem.read ((s.cnt.toNat + 1) % 2 ^ s.cfg.width))
      (s.branchTo (s.cnt.toNat + 2)) := by
  have hNext : s.setCnt (s.cnt + 2#17) = s.branchTo (s.cnt.toNat + 2) := by
    rw [← State.setCnt_ofInt, BitVec.ofInt_add, BitVec.ofInt_natCast, BitVec.ofNat_toNat, BitVec.setWidth_eq]
    rfl
  rw [← State.toNat_second_of_even hEven] at hSecond ⊢
  exact State.fetch_ok.2 ⟨State.getLsbD_zero_cnt_of_even hEven, hFirst, hSecond, rfl, hNext.symm⟩

end Fetch

theorem State.branchTo_cfg (s : State) (x : Int) : (s.branchTo x).cfg = s.cfg := by
  unfold State.branchTo
  split
  · rfl
  · split <;> rfl

theorem State.fetchInstr_of_refused {s : State} {r : Refusal} (h : s.fetch = .refused r) :
    s.fetchInstr = .refused r := by
  rw [State.fetchInstr, h]

section Fetched

variable {s t : State} {lo hi : Byte} (h : s.fetch = .ok (lo, hi) t)
include h

theorem State.fetchInstr_of_parity (hMode : t.cfg.opmsbMode = .parity) :
    s.fetchInstr = .refused .parityRuleUnsupplied := by
  simp only [State.fetchInstr, h, if_pos hMode]

theorem State.fetchInstr_of_not_parity (hMode : t.cfg.opmsbMode ≠ .parity) :
    s.fetchInstr = .ok (decode (wordOfBytes lo hi)) t := by
  simp only [State.fetchInstr, h, if_neg hMode]

end Fetched

/-! ### The statements -/

/-- Settles O4: the words are those of the instructions, which O1 decodes. -/
theorem decodedSampleWords : Obligations.DecodedSampleWords :=
  have word {i : Instr} (h : i.wf = true) : decode (encode i) = i := decodeEncodeRoundTrip i h
  ⟨word (i := .nop 0x00#8) rfl, word (i := .swap) rfl, word (i := .usermode 1#1) rfl, word (i := .offset 2#2) rfl,
    word (i := .clear1) rfl, word (i := .pmemacc) rfl, word (i := .int 3#4) rfl, word (i := .inout) rfl,
    word (i := .ldAN 0x12#8) rfl, word (i := .setflagD 0x10#7) rfl, word (i := .roopshlc) rfl,
    word (i := .stAX 1#7) rfl, word (i := .zeroX 2#7) rfl, word (i := .stCP) rfl, word (i := .andMemD 0x10#7) rfl,
    word (i := .jmpM 121#7) rfl, word (i := .jmpC0) rfl, word (i := .balX 1#7) rfl, word (i := .jrB) rfl,
    word (i := .jrBack 0xFF#8) rfl, word (i := .brFwd 0x10#8) rfl, word (i := .inD 0x30#7) rfl,
    word (i := .reti 0x7E#7) rfl, word (i := .incxD 0x10#7) rfl, word (i := .addAC) rfl, word (i := .subcAC) rfl,
    word (i := .stac) rfl, word (i := .stzcp) rfl, word (i := .loopdecWait) rfl, word (i := .loopshrc) rfl,
    word (i := .loopzero) rfl, word (i := .andAN 0x80#8) rfl, word (i := .orAX 3#7) rfl,
    word (i := .hardMacro 3#6 5#8) rfl, word (i := .opmsb false 6#6 0x81#8) rfl⟩

/-- Settles O7: the step is the fetch, whose word O2 decodes to a well-formed instruction, and that instruction. -/
theorem stepRunsDecodedInstruction : Obligations.StepRunsDecodedInstruction := by
  intro s i hQuiet hEven hFirst hSecond hMode hWord
  obtain ⟨hWf, -⟩ := encodeDecodeRoundTrip (s.mem.read ((s.cnt.toNat + 1) % 2 ^ s.cfg.width) ++ s.mem.read s.cnt.toNat)
  have hFetch := State.fetch_of_installed (s := s.sampleLines) (by simpa using hEven) (by simpa using hFirst)
    (by simpa using hSecond)
  have hInstr := State.fetchInstr_of_not_parity hFetch (by rwa [State.branchTo_cfg, State.sampleLines_cfg])
  simp only [State.sampleLines_cnt, State.sampleLines_cfg, State.sampleLines_mem, wordOfBytes, hWord] at hInstr
  refine ⟨hWord ▸ hWf, ?_⟩
  rw [step_of_quiet hQuiet, hInstr, Res.andThen]

/-- Settles O8: the clauses are the tests of the fetch, in its order. -/
theorem fetchStops : Obligations.FetchStops := by
  intro s hQuiet
  have hStep {r : Refusal} (h : s.sampleLines.fetchInstr = .refused r) : step s = .refused r := by
    rw [step_of_quiet hQuiet, h, Res.andThen]
  have hStop {r : Refusal} (h : s.sampleLines.fetch = .refused r) : step s = .refused r :=
    hStep (State.fetchInstr_of_refused h)
  rw [← s.sampleLines_cnt, ← s.sampleLines_cfg]
  exact ⟨fun hOdd => hStop (State.fetch_of_odd hOdd),
    fun hEven hOut => hStop (State.fetch_of_first_outside hEven hOut),
    fun hEven hFirst hOut => hStop (State.fetch_of_second_outside hEven hFirst hOut),
    fun hEven hFirst hSecond hMode => hStep (State.fetchInstr_of_parity
      (State.fetch_of_installed hEven hFirst hSecond) ((congrArg _ (State.branchTo_cfg _ _)).trans hMode))⟩

end Sys2Proof.Machine
end
